-- ==== Sys2Proof/Word.lean ====
section
/-! DEFINITION. The word types of the machine and their plainest arithmetic (spec/00_scope.md R11). -/

namespace Sys2Proof

/-- A 32-bit register value, address or instruction word (R11). -/
abbrev Word := BitVec 32

/-- One byte of memory (R101). -/
abbrev Byte := BitVec 8

/-- A general register number, 0 to 31 (R20). -/
abbrev Reg := BitVec 5

/-- The 16-bit immediate field of an I-type word (R161, R162). -/
abbrev Imm16 := BitVec 16

/-- `sext_16` of the 16-bit immediate (R12, R162(a)). -/
def sext16 (v : Imm16) : Word := v.signExtend 32

/-- `zext_16` of the 16-bit immediate (R12, R162(b)). -/
def zext16 (v : Imm16) : Word := v.setWidth 32

end Sys2Proof
end

