-- ==== Sys2Proof/Machine/Bits.lean ====
section
/-! DEFINITION. Bit fields of a word (00_scope.md R11). -/

namespace Sys2Proof.Machine

/-- Bits `lo + len - 1 : lo` of `w` as a number. -/
def field (w : Word) (lo len : Nat) : Nat := (w.extractLsb' lo len).toNat

/-- The word with ones in bits `lo + len - 1 : lo`. -/
def fieldMask (lo len : Nat) : Word := BitVec.ofNat 32 (2 ^ len - 1) <<< lo

/-- `w` with bits `lo + len - 1 : lo` replaced by the low bits of `v`. -/
def putField (w : Word) (lo len : Nat) (v : Word) : Word :=
  (w &&& ~~~fieldMask lo len) ||| ((v <<< lo) &&& fieldMask lo len)

/-- Bit i of a word. -/
def bit (w : Word) (i : Nat) : Bool := w.getLsbD i

/-- The word with bit `i` alone. -/
def one (i : Nat) : Word := 1#32 <<< i

/-- `w` with bit `i` set to `b`. -/
def setBit (w : Word) (i : Nat) (b : Bool) : Word := if b then w ||| one i else w &&& ~~~one i

/-- `one i` when `b`, else 0. -/
def flag (b : Bool) (i : Nat) : Word := if b then one i else 0

/-- The new value of a register with write mask `mask` (45_trap_system.md R431). -/
def masked (mask old v : Word) : Word := (old &&& ~~~mask) ||| (v &&& mask)

end Sys2Proof.Machine
end

