-- ==== Sys2Proof/Config.lean ====
section
/-! DEFINITION. What an implementation or a board fixes (00_scope.md R10), and the free values: constants without a body,
of which nothing can be proved (93_implementation_defined.md, log entries 7 and 8). -/

namespace Sys2Proof

/-- A cache size (R10: "alterable size: 4K, 8K, 16K bytes"). -/
inductive CacheSize where
  | k4 | k8 | k16
deriving DecidableEq, Repr

/-- What answers a bus address behind the EMC (63_platform_memory.md R660, R661). -/
inductive BankId where
  /-- static memory bank CSn# -/
  | static (n : Nat)
  /-- SDRAM bank DCSk# -/
  | sdram (k : Nat)
  /-- PC Card socket k (R685) -/
  | pccard (k : Nat)
  /-- the on-chip boot ROM of a NAND boot (R675) -/
  | bootRom
deriving DecidableEq, Repr

/-- RAM takes writes; ROM and NOR flash refuse them (D7). -/
inductive RegionKind where
  | ram | rom
deriving DecidableEq, Repr

/-- One entry of BOARD_MEMORY (R10, R661): a populated range. `base` is its physical address while the EMC has its reset
programming; the cells of the range keep these addresses as their numbers, whatever address software gives the bank later;
those of the boot ROM lie beyond all of them (log entry 6). -/
structure Region where
  /-- the bank the range is connected to -/
  bank : BankId
  /-- physical base -/
  base : Nat
  /-- size in bytes -/
  size : Nat
  /-- whether it takes writes -/
  kind : RegionKind
deriving DecidableEq, Repr

/-- The parameters of 00_scope.md R10. -/
structure Params where
  /-- BIG_ENDIAN -/
  bigEndian : Bool
  /-- JTLB_ENTRIES = 32 when true, 16 when false -/
  tlb32 : Bool
  /-- ICACHE_BYTES -/
  icache : CacheSize
  /-- DCACHE_BYTES -/
  dcache : CacheSize
  /-- BOOT_SEL (61_platform.md R605) -/
  bootSel : BitVec 4
  /-- TP_MD (61_platform.md R606) -/
  tpMd : Bool
  /-- TAP_MD (61_platform.md R606) -/
  tapMd : Bool
  /-- BOARD_MEMORY -/
  board : List Region
deriving DecidableEq, Repr

/-- The defaults of R10: little-endian (D1), 32 entries and 16 KB caches (D2), boot from static bank 0 with 32 bits (D3),
one SDRAM part and one boot ROM (D7; their sizes are DESIGN CHOICE, log entry 6). -/
def Params.default : Params :=
  { bigEndian := false, tlb32 := true, icache := .k16, dcache := .k16, bootSel := 0, tpMd := false, tapMd := true,
    board := [⟨.static 0, 0x1FC00000, 0x400000, .rom⟩, ⟨.sdram 0, 0x20000000, 0x8000000, .ram⟩] }

/-- JTLB_ENTRIES - 1: the reset value of Random and the greatest TLB index (R9, R30). -/
def Params.lastIndex (p : Params) : Nat := if p.tlb32 then 31 else 15

/-- A device that drives one input of the INTC (61_platform.md R550, 64_peripherals.md R741). -/
inductive IrqSource where
  | ost | rtc | gpio (group : BitVec 2) | uart (u : BitVec 2) | i2c | ssi | scc | kbc | dmac | udc | lcd | cim | eth | aic
  | msc
deriving DecidableEq, Repr

/-- The n-th free value drawn by the machine: any word (93_implementation_defined.md, treatment "any value"). -/
opaque Config.freeWord : Nat → Word

/-- INTC_SOURCE_MAP, an open parameter (D25): the INTC bit a source drives. -/
opaque Config.intcBit : IrqSource → BitVec 5

/-- The identification registers of the TAP, not given by the source (62_ejtag.md R640, N47). -/
opaque Config.idcode : Word

/-- IMPCODE, likewise. -/
opaque Config.impcode : Word

/-- Debug.EJTAGver, not given by the source (10_state.md R57). -/
opaque Config.ejtagVer : BitVec 3

/-- The FIFO trigger level of SCCCR.TRIG codes 0 to 2, lost from the source (64_peripherals.md R791). -/
opaque Config.sccTrigger : BitVec 2 → Nat

/-- Whether MTC0 writes Debug.MCheckP: yes by 10_state.md R57, no by 45_trap_system.md R432 (log entry 14). -/
opaque Config.mcheckPWritten : Bool

/-- The level of the CTS_ input of a UART that no pin drives, a constant of the host (64_peripherals.md R754, log entry 42). -/
opaque Config.ctsLevel : BitVec 2 → Bool

end Sys2Proof
end

