-- ==== Sys2Proof/Machine/IoTable.lean ====
section
/-! DEFINITION. The device registers of the internal I/O space (64_peripherals.md R740): address, width, access, reset value
and plain write mask of each, from the register rules of files 61 and 63 to 66 (61_platform.md R530). Side effects are in
the Dev files. -/

namespace Sys2Proof.Machine

/-! ### Register addresses (physical) -/

/-- CPM CPCCR0 (R534). -/
abbrev Adr.CPCCR0 : Nat := 0x10000000
/-- CPM LCR (R542). -/
abbrev Adr.LCR : Nat := 0x10000004
/-- CPM RSR (R590). -/
abbrev Adr.RSR : Nat := 0x10000008
/-- CPM CPPCR (R536). -/
abbrev Adr.CPPCR : Nat := 0x10000010
/-- CPM CPOCR (R537). -/
abbrev Adr.CPOCR : Nat := 0x1000001C
/-- CPM CDR (R543). -/
abbrev Adr.CDR : Nat := 0x10000020
/-- CPM HCR (R544). -/
abbrev Adr.HCR : Nat := 0x10000024
/-- CPM HRER (R547). -/
abbrev Adr.HRER : Nat := 0x10000028
/-- CPM HFER (R547). -/
abbrev Adr.HFER : Nat := 0x1000002C
/-- CPM HER (R547). -/
abbrev Adr.HER : Nat := 0x10000030
/-- CPM HSR (R547). -/
abbrev Adr.HSR : Nat := 0x10000034
/-- CPM HGSR0 (R548). -/
abbrev Adr.HGSR0 : Nat := 0x10000038
/-- CPM HGSR1 (R548). -/
abbrev Adr.HGSR1 : Nat := 0x1000003C
/-- CPM HGSR2 (R548). -/
abbrev Adr.HGSR2 : Nat := 0x10000040
/-- CPM HSPR (R548). -/
abbrev Adr.HSPR : Nat := 0x10000044
/-- CPM HGSR3 (R548). -/
abbrev Adr.HGSR3 : Nat := 0x10000048
/-- CPM CPCCR1 (R535). -/
abbrev Adr.CPCCR1 : Nat := 0x10000060
/-- INTC ICSR (R551). -/
abbrev Adr.ICSR : Nat := 0x10001000
/-- INTC ICMR (R551). -/
abbrev Adr.ICMR : Nat := 0x10001004
/-- INTC ICMSR (R551). -/
abbrev Adr.ICMSR : Nat := 0x10001008
/-- INTC ICMCR (R551). -/
abbrev Adr.ICMCR : Nat := 0x1000100C
/-- INTC ICPR (R551). -/
abbrev Adr.ICPR : Nat := 0x10001010
/-- OST OTER (R562). -/
abbrev Adr.OTER : Nat := 0x10002000
/-- OST OTDR0 (R561). -/
abbrev Adr.OTDR0 : Nat := 0x10002010
/-- OST OTCNT0 (R561). -/
abbrev Adr.OTCNT0 : Nat := 0x10002014
/-- OST OTCSR0 (R563). -/
abbrev Adr.OTCSR0 : Nat := 0x10002018
/-- OST OTCRD0 (R565). -/
abbrev Adr.OTCRD0 : Nat := 0x1000201C
/-- OST OTDR1 (R561). -/
abbrev Adr.OTDR1 : Nat := 0x10002030
/-- OST OTCNT1 (R561). -/
abbrev Adr.OTCNT1 : Nat := 0x10002034
/-- OST OTCSR1 (R563). -/
abbrev Adr.OTCSR1 : Nat := 0x10002038
/-- OST OTCRD1 (R565). -/
abbrev Adr.OTCRD1 : Nat := 0x1000203C
/-- OST OTDR2 (R561). -/
abbrev Adr.OTDR2 : Nat := 0x10002050
/-- OST OTCNT2 (R561). -/
abbrev Adr.OTCNT2 : Nat := 0x10002054
/-- OST OTCSR2 (R563). -/
abbrev Adr.OTCSR2 : Nat := 0x10002058
/-- OST OTCRD2 (R565). -/
abbrev Adr.OTCRD2 : Nat := 0x1000205C
/-- RTC RTCCR (R571). -/
abbrev Adr.RTCCR : Nat := 0x10003000
/-- RTC RTCSR (R572). -/
abbrev Adr.RTCSR : Nat := 0x10003004
/-- RTC RTCSAR (R572). -/
abbrev Adr.RTCSAR : Nat := 0x1000300C
/-- RTC RTCGR (R573). -/
abbrev Adr.RTCGR : Nat := 0x10003018
/-- WDT WDTCSR (R581). -/
abbrev Adr.WDTCSR : Nat := 0x10004000
/-- WDT WDTCNT (R581). -/
abbrev Adr.WDTCNT : Nat := 0x10004004
/-- GPIO GPD0 (R712). -/
abbrev Adr.GPD0 : Nat := 0x10010000
/-- GPIO GPDIR0 (R713). -/
abbrev Adr.GPDIR0 : Nat := 0x10010004
/-- GPIO GPPE0 (R714). -/
abbrev Adr.GPPE0 : Nat := 0x1001000C
/-- GPIO GPFSL0 (R715). -/
abbrev Adr.GPFSL0 : Nat := 0x10010010
/-- GPIO GPFSH0 (R715). -/
abbrev Adr.GPFSH0 : Nat := 0x10010014
/-- GPIO GPITL0 (R716). -/
abbrev Adr.GPITL0 : Nat := 0x10010018
/-- GPIO GPITH0 (R716). -/
abbrev Adr.GPITH0 : Nat := 0x1001001C
/-- GPIO GPIE0 (R717). -/
abbrev Adr.GPIE0 : Nat := 0x10010020
/-- GPIO GPIM0 (R717). -/
abbrev Adr.GPIM0 : Nat := 0x10010024
/-- GPIO GPIRQ0 (R718). -/
abbrev Adr.GPIRQ0 : Nat := 0x10010028
/-- GPIO GPD1 (R712). -/
abbrev Adr.GPD1 : Nat := 0x10010030
/-- GPIO GPDIR1 (R713). -/
abbrev Adr.GPDIR1 : Nat := 0x10010034
/-- GPIO GPPE1 (R714). -/
abbrev Adr.GPPE1 : Nat := 0x1001003C
/-- GPIO GPFSL1 (R715). -/
abbrev Adr.GPFSL1 : Nat := 0x10010040
/-- GPIO GPFSH1 (R715). -/
abbrev Adr.GPFSH1 : Nat := 0x10010044
/-- GPIO GPITL1 (R716). -/
abbrev Adr.GPITL1 : Nat := 0x10010048
/-- GPIO GPITH1 (R716). -/
abbrev Adr.GPITH1 : Nat := 0x1001004C
/-- GPIO GPIE1 (R717). -/
abbrev Adr.GPIE1 : Nat := 0x10010050
/-- GPIO GPIM1 (R717). -/
abbrev Adr.GPIM1 : Nat := 0x10010054
/-- GPIO GPIRQ1 (R718). -/
abbrev Adr.GPIRQ1 : Nat := 0x10010058
/-- GPIO GPD2 (R712). -/
abbrev Adr.GPD2 : Nat := 0x10010060
/-- GPIO GPDIR2 (R713). -/
abbrev Adr.GPDIR2 : Nat := 0x10010064
/-- GPIO GPPE2 (R714). -/
abbrev Adr.GPPE2 : Nat := 0x1001006C
/-- GPIO GPFSL2 (R715). -/
abbrev Adr.GPFSL2 : Nat := 0x10010070
/-- GPIO GPFSH2 (R715). -/
abbrev Adr.GPFSH2 : Nat := 0x10010074
/-- GPIO GPITL2 (R716). -/
abbrev Adr.GPITL2 : Nat := 0x10010078
/-- GPIO GPITH2 (R716). -/
abbrev Adr.GPITH2 : Nat := 0x1001007C
/-- GPIO GPIE2 (R717). -/
abbrev Adr.GPIE2 : Nat := 0x10010080
/-- GPIO GPIM2 (R717). -/
abbrev Adr.GPIM2 : Nat := 0x10010084
/-- GPIO GPIRQ2 (R718). -/
abbrev Adr.GPIRQ2 : Nat := 0x10010088
/-- GPIO GPD3 (R712). -/
abbrev Adr.GPD3 : Nat := 0x10010090
/-- GPIO GPDIR3 (R713). -/
abbrev Adr.GPDIR3 : Nat := 0x10010094
/-- GPIO GPPE3 (R714). -/
abbrev Adr.GPPE3 : Nat := 0x1001009C
/-- GPIO GPFSL3 (R715). -/
abbrev Adr.GPFSL3 : Nat := 0x100100A0
/-- GPIO GPFSH3 (R715). -/
abbrev Adr.GPFSH3 : Nat := 0x100100A4
/-- GPIO GPITL3 (R716). -/
abbrev Adr.GPITL3 : Nat := 0x100100A8
/-- GPIO GPITH3 (R716). -/
abbrev Adr.GPITH3 : Nat := 0x100100AC
/-- GPIO GPIE3 (R717). -/
abbrev Adr.GPIE3 : Nat := 0x100100B0
/-- GPIO GPIM3 (R717). -/
abbrev Adr.GPIM3 : Nat := 0x100100B4
/-- GPIO GPIRQ3 (R718). -/
abbrev Adr.GPIRQ3 : Nat := 0x100100B8
/-- AIC AICFR (R931). -/
abbrev Adr.AICFR : Nat := 0x10020000
/-- AIC AICCR (R932). -/
abbrev Adr.AICCR : Nat := 0x10020004
/-- AIC ACCR1 (R933). -/
abbrev Adr.ACCR1 : Nat := 0x10020008
/-- AIC ACCR2 (R933). -/
abbrev Adr.ACCR2 : Nat := 0x1002000C
/-- AIC I2SCR (R934). -/
abbrev Adr.I2SCR : Nat := 0x10020010
/-- AIC AICSR (R935). -/
abbrev Adr.AICSR : Nat := 0x10020014
/-- AIC ACSR (R935). -/
abbrev Adr.ACSR : Nat := 0x10020018
/-- AIC I2SSR (R935). -/
abbrev Adr.I2SSR : Nat := 0x1002001C
/-- AIC ACCAR (R936). -/
abbrev Adr.ACCAR : Nat := 0x10020020
/-- AIC ACCDR (R936). -/
abbrev Adr.ACCDR : Nat := 0x10020024
/-- AIC ACSAR (R936). -/
abbrev Adr.ACSAR : Nat := 0x10020028
/-- AIC ACSDR (R936). -/
abbrev Adr.ACSDR : Nat := 0x1002002C
/-- AIC I2SDIV (R934). -/
abbrev Adr.I2SDIV : Nat := 0x10020030
/-- AIC AICDR (R937). -/
abbrev Adr.AICDR : Nat := 0x10020034
/-- MSC MSC_STRPCL (R941). -/
abbrev Adr.MSC_STRPCL : Nat := 0x10021000
/-- MSC MSC_STAT (R942). -/
abbrev Adr.MSC_STAT : Nat := 0x10021004
/-- MSC MSC_CLKRT (R943). -/
abbrev Adr.MSC_CLKRT : Nat := 0x10021008
/-- MSC MSC_CMDAT (R943). -/
abbrev Adr.MSC_CMDAT : Nat := 0x1002100C
/-- MSC MSC_RESTO (R944). -/
abbrev Adr.MSC_RESTO : Nat := 0x10021010
/-- MSC MSC_RDTO (R944). -/
abbrev Adr.MSC_RDTO : Nat := 0x10021014
/-- MSC MSC_BLKLEN (R944). -/
abbrev Adr.MSC_BLKLEN : Nat := 0x10021018
/-- MSC MSC_NOB (R944). -/
abbrev Adr.MSC_NOB : Nat := 0x1002101C
/-- MSC MSC_SNOB (R944). -/
abbrev Adr.MSC_SNOB : Nat := 0x10021020
/-- MSC MSC_IMASK (R945). -/
abbrev Adr.MSC_IMASK : Nat := 0x10021024
/-- MSC MSC_IREG (R945). -/
abbrev Adr.MSC_IREG : Nat := 0x10021028
/-- MSC MSC_CMD (R946). -/
abbrev Adr.MSC_CMD : Nat := 0x1002102C
/-- MSC MSC_ARG (R946). -/
abbrev Adr.MSC_ARG : Nat := 0x10021030
/-- MSC MSC_RES (R946). -/
abbrev Adr.MSC_RES : Nat := 0x10021034
/-- MSC MSC_RXFIFO (R946). -/
abbrev Adr.MSC_RXFIFO : Nat := 0x10021038
/-- MSC MSC_TXFIFO (R946). -/
abbrev Adr.MSC_TXFIFO : Nat := 0x1002103C
/-- UART0 URBR_UTHR_UDLLR0 (R743). -/
abbrev Adr.URBR_UTHR_UDLLR0 : Nat := 0x10030000
/-- UART0 UIER_UDLHR0 (R748). -/
abbrev Adr.UIER_UDLHR0 : Nat := 0x10030004
/-- UART0 UIIR_UFCR0 (R749). -/
abbrev Adr.UIIR_UFCR0 : Nat := 0x10030008
/-- UART0 ULCR0 (R751). -/
abbrev Adr.ULCR0 : Nat := 0x1003000C
/-- UART0 UMCR0 (R753). -/
abbrev Adr.UMCR0 : Nat := 0x10030010
/-- UART0 ULSR0 (R752). -/
abbrev Adr.ULSR0 : Nat := 0x10030014
/-- UART0 UMSR0 (R754). -/
abbrev Adr.UMSR0 : Nat := 0x10030018
/-- UART0 USPR0 (R755). -/
abbrev Adr.USPR0 : Nat := 0x1003001C
/-- UART0 ISR0 (R755). -/
abbrev Adr.ISR0 : Nat := 0x10030020
/-- UART1 URBR_UTHR_UDLLR1 (R743). -/
abbrev Adr.URBR_UTHR_UDLLR1 : Nat := 0x10031000
/-- UART1 UIER_UDLHR1 (R748). -/
abbrev Adr.UIER_UDLHR1 : Nat := 0x10031004
/-- UART1 UIIR_UFCR1 (R749). -/
abbrev Adr.UIIR_UFCR1 : Nat := 0x10031008
/-- UART1 ULCR1 (R751). -/
abbrev Adr.ULCR1 : Nat := 0x1003100C
/-- UART1 UMCR1 (R753). -/
abbrev Adr.UMCR1 : Nat := 0x10031010
/-- UART1 ULSR1 (R752). -/
abbrev Adr.ULSR1 : Nat := 0x10031014
/-- UART1 UMSR1 (R754). -/
abbrev Adr.UMSR1 : Nat := 0x10031018
/-- UART1 USPR1 (R755). -/
abbrev Adr.USPR1 : Nat := 0x1003101C
/-- UART1 ISR1 (R755). -/
abbrev Adr.ISR1 : Nat := 0x10031020
/-- UART2 URBR_UTHR_UDLLR2 (R743). -/
abbrev Adr.URBR_UTHR_UDLLR2 : Nat := 0x10032000
/-- UART2 UIER_UDLHR2 (R748). -/
abbrev Adr.UIER_UDLHR2 : Nat := 0x10032004
/-- UART2 UIIR_UFCR2 (R749). -/
abbrev Adr.UIIR_UFCR2 : Nat := 0x10032008
/-- UART2 ULCR2 (R751). -/
abbrev Adr.ULCR2 : Nat := 0x1003200C
/-- UART2 UMCR2 (R753). -/
abbrev Adr.UMCR2 : Nat := 0x10032010
/-- UART2 ULSR2 (R752). -/
abbrev Adr.ULSR2 : Nat := 0x10032014
/-- UART2 UMSR2 (R754). -/
abbrev Adr.UMSR2 : Nat := 0x10032018
/-- UART2 USPR2 (R755). -/
abbrev Adr.USPR2 : Nat := 0x1003201C
/-- UART2 ISR2 (R755). -/
abbrev Adr.ISR2 : Nat := 0x10032020
/-- UART3 URBR_UTHR_UDLLR3 (R743). -/
abbrev Adr.URBR_UTHR_UDLLR3 : Nat := 0x10033000
/-- UART3 UIER_UDLHR3 (R748). -/
abbrev Adr.UIER_UDLHR3 : Nat := 0x10033004
/-- UART3 UIIR_UFCR3 (R749). -/
abbrev Adr.UIIR_UFCR3 : Nat := 0x10033008
/-- UART3 ULCR3 (R751). -/
abbrev Adr.ULCR3 : Nat := 0x1003300C
/-- UART3 UMCR3 (R753). -/
abbrev Adr.UMCR3 : Nat := 0x10033010
/-- UART3 ULSR3 (R752). -/
abbrev Adr.ULSR3 : Nat := 0x10033014
/-- UART3 UMSR3 (R754). -/
abbrev Adr.UMSR3 : Nat := 0x10033018
/-- UART3 USPR3 (R755). -/
abbrev Adr.USPR3 : Nat := 0x1003301C
/-- UART3 ISR3 (R755). -/
abbrev Adr.ISR3 : Nat := 0x10033020
/-- SCC SCCDR (R791). -/
abbrev Adr.SCCDR : Nat := 0x10041000
/-- SCC SCCFDR (R791). -/
abbrev Adr.SCCFDR : Nat := 0x10041004
/-- SCC SCCCR (R791). -/
abbrev Adr.SCCCR : Nat := 0x10041008
/-- SCC SCCSR (R791). -/
abbrev Adr.SCCSR : Nat := 0x1004100C
/-- SCC SCCTFR (R791). -/
abbrev Adr.SCCTFR : Nat := 0x10041010
/-- SCC SCCEGTR (R791). -/
abbrev Adr.SCCEGTR : Nat := 0x10041014
/-- SCC SCCECR (R791). -/
abbrev Adr.SCCECR : Nat := 0x10041018
/-- SCC SCCRTOR (R791). -/
abbrev Adr.SCCRTOR : Nat := 0x1004101C
/-- I2C I2CDR (R771). -/
abbrev Adr.I2CDR : Nat := 0x10042000
/-- I2C I2CCR (R771). -/
abbrev Adr.I2CCR : Nat := 0x10042004
/-- I2C I2CSR (R771). -/
abbrev Adr.I2CSR : Nat := 0x10042008
/-- I2C I2CGR (R771). -/
abbrev Adr.I2CGR : Nat := 0x1004200C
/-- SSI SSIDR (R777). -/
abbrev Adr.SSIDR : Nat := 0x10043000
/-- SSI SSICR0 (R778). -/
abbrev Adr.SSICR0 : Nat := 0x10043004
/-- SSI SSICR1 (R779). -/
abbrev Adr.SSICR1 : Nat := 0x10043008
/-- SSI SSISR (R780). -/
abbrev Adr.SSISR : Nat := 0x1004300C
/-- SSI SSIITR (R780). -/
abbrev Adr.SSIITR : Nat := 0x10043010
/-- SSI SSIICR (R780). -/
abbrev Adr.SSIICR : Nat := 0x10043014
/-- SSI SSIGR (R780). -/
abbrev Adr.SSIGR : Nat := 0x10043018
/-- PWM0 PWMCTR0 (R765). -/
abbrev Adr.PWMCTR0 : Nat := 0x10050000
/-- PWM0 PWMPER0 (R765). -/
abbrev Adr.PWMPER0 : Nat := 0x10050004
/-- PWM0 PWMDUT0 (R765). -/
abbrev Adr.PWMDUT0 : Nat := 0x10050008
/-- PWM1 PWMCTR1 (R765). -/
abbrev Adr.PWMCTR1 : Nat := 0x10051000
/-- PWM1 PWMPER1 (R765). -/
abbrev Adr.PWMPER1 : Nat := 0x10051004
/-- PWM1 PWMDUT1 (R765). -/
abbrev Adr.PWMDUT1 : Nat := 0x10051008
/-- KBC KRDR_KTDR (R796). -/
abbrev Adr.KRDR_KTDR : Nat := 0x10062060
/-- KBC KCSR_KCCR (R797). -/
abbrev Adr.KCSR_KCCR : Nat := 0x10062064
/-- SBA SBA_CNTL (R601). -/
abbrev Adr.SBA_CNTL : Nat := 0x13000000
/-- EMC BCR (R665). -/
abbrev Adr.BCR : Nat := 0x13010000
/-- EMC SMCR0 (R666). -/
abbrev Adr.SMCR0 : Nat := 0x13010010
/-- EMC SMCR1 (R666). -/
abbrev Adr.SMCR1 : Nat := 0x13010014
/-- EMC SMCR2 (R666). -/
abbrev Adr.SMCR2 : Nat := 0x13010018
/-- EMC SMCR3 (R666). -/
abbrev Adr.SMCR3 : Nat := 0x1301001C
/-- EMC SMCR4 (R666). -/
abbrev Adr.SMCR4 : Nat := 0x13010020
/-- EMC SMCR5 (R666). -/
abbrev Adr.SMCR5 : Nat := 0x13010024
/-- EMC SACR0 (R667). -/
abbrev Adr.SACR0 : Nat := 0x13010030
/-- EMC SACR1 (R667). -/
abbrev Adr.SACR1 : Nat := 0x13010034
/-- EMC SACR2 (R667). -/
abbrev Adr.SACR2 : Nat := 0x13010038
/-- EMC SACR3 (R667). -/
abbrev Adr.SACR3 : Nat := 0x1301003C
/-- EMC SACR4 (R667). -/
abbrev Adr.SACR4 : Nat := 0x13010040
/-- EMC SACR5 (R667). -/
abbrev Adr.SACR5 : Nat := 0x13010044
/-- EMC NFCSR (R670). -/
abbrev Adr.NFCSR : Nat := 0x13010050
/-- EMC NFECC (R671). -/
abbrev Adr.NFECC : Nat := 0x13010054
/-- EMC DMCR (R681). -/
abbrev Adr.DMCR : Nat := 0x13010080
/-- EMC EMC_RTCSR (R683). -/
abbrev Adr.EMC_RTCSR : Nat := 0x13010084
/-- EMC RTCNT (R683). -/
abbrev Adr.RTCNT : Nat := 0x13010088
/-- EMC RTCOR (R683). -/
abbrev Adr.RTCOR : Nat := 0x1301008C
/-- EMC DMAR1 (R684). -/
abbrev Adr.DMAR1 : Nat := 0x13010090
/-- EMC DMAR2 (R684). -/
abbrev Adr.DMAR2 : Nat := 0x13010094
/-- DMAC DSA0 (R691). -/
abbrev Adr.DSA0 : Nat := 0x13020000
/-- DMAC DDA0 (R691). -/
abbrev Adr.DDA0 : Nat := 0x13020004
/-- DMAC DTC0 (R691). -/
abbrev Adr.DTC0 : Nat := 0x13020008
/-- DMAC DRT0 (R691). -/
abbrev Adr.DRT0 : Nat := 0x1302000C
/-- DMAC DCS0 (R692). -/
abbrev Adr.DCS0 : Nat := 0x13020010
/-- DMAC DSA1 (R691). -/
abbrev Adr.DSA1 : Nat := 0x13020020
/-- DMAC DDA1 (R691). -/
abbrev Adr.DDA1 : Nat := 0x13020024
/-- DMAC DTC1 (R691). -/
abbrev Adr.DTC1 : Nat := 0x13020028
/-- DMAC DRT1 (R691). -/
abbrev Adr.DRT1 : Nat := 0x1302002C
/-- DMAC DCS1 (R692). -/
abbrev Adr.DCS1 : Nat := 0x13020030
/-- DMAC DSA2 (R691). -/
abbrev Adr.DSA2 : Nat := 0x13020040
/-- DMAC DDA2 (R691). -/
abbrev Adr.DDA2 : Nat := 0x13020044
/-- DMAC DTC2 (R691). -/
abbrev Adr.DTC2 : Nat := 0x13020048
/-- DMAC DRT2 (R691). -/
abbrev Adr.DRT2 : Nat := 0x1302004C
/-- DMAC DCS2 (R692). -/
abbrev Adr.DCS2 : Nat := 0x13020050
/-- DMAC DSA3 (R691). -/
abbrev Adr.DSA3 : Nat := 0x13020060
/-- DMAC DDA3 (R691). -/
abbrev Adr.DDA3 : Nat := 0x13020064
/-- DMAC DTC3 (R691). -/
abbrev Adr.DTC3 : Nat := 0x13020068
/-- DMAC DRT3 (R691). -/
abbrev Adr.DRT3 : Nat := 0x1302006C
/-- DMAC DCS3 (R692). -/
abbrev Adr.DCS3 : Nat := 0x13020070
/-- DMAC DSA4 (R691). -/
abbrev Adr.DSA4 : Nat := 0x13020080
/-- DMAC DDA4 (R691). -/
abbrev Adr.DDA4 : Nat := 0x13020084
/-- DMAC DTC4 (R691). -/
abbrev Adr.DTC4 : Nat := 0x13020088
/-- DMAC DRT4 (R691). -/
abbrev Adr.DRT4 : Nat := 0x1302008C
/-- DMAC DCS4 (R692). -/
abbrev Adr.DCS4 : Nat := 0x13020090
/-- DMAC DSA5 (R691). -/
abbrev Adr.DSA5 : Nat := 0x130200A0
/-- DMAC DDA5 (R691). -/
abbrev Adr.DDA5 : Nat := 0x130200A4
/-- DMAC DTC5 (R691). -/
abbrev Adr.DTC5 : Nat := 0x130200A8
/-- DMAC DRT5 (R691). -/
abbrev Adr.DRT5 : Nat := 0x130200AC
/-- DMAC DCS5 (R692). -/
abbrev Adr.DCS5 : Nat := 0x130200B0
/-- DMAC DIRQP (R694). -/
abbrev Adr.DIRQP : Nat := 0x130200F8
/-- DMAC DMAC (R695). -/
abbrev Adr.DMAC : Nat := 0x130200FC
/-- UHC HcRevision (R870). -/
abbrev Adr.HcRevision : Nat := 0x13030000
/-- UHC HcControl (R870). -/
abbrev Adr.HcControl : Nat := 0x13030004
/-- UHC HcCommandStatus (R870). -/
abbrev Adr.HcCommandStatus : Nat := 0x13030008
/-- UHC HcInterruptStatus (R870). -/
abbrev Adr.HcInterruptStatus : Nat := 0x1303000C
/-- UHC HcInterruptEnable (R870). -/
abbrev Adr.HcInterruptEnable : Nat := 0x13030010
/-- UHC HcInterruptDisable (R870). -/
abbrev Adr.HcInterruptDisable : Nat := 0x13030014
/-- UHC HcHCCA (R870). -/
abbrev Adr.HcHCCA : Nat := 0x13030018
/-- UHC HcPeriodCurrentED (R870). -/
abbrev Adr.HcPeriodCurrentED : Nat := 0x1303001C
/-- UHC HcControlHeadED (R870). -/
abbrev Adr.HcControlHeadED : Nat := 0x13030020
/-- UHC HcControlCurrentED (R870). -/
abbrev Adr.HcControlCurrentED : Nat := 0x13030024
/-- UHC HcBulkHeadED (R870). -/
abbrev Adr.HcBulkHeadED : Nat := 0x13030028
/-- UHC HcBulkCurrentED (R870). -/
abbrev Adr.HcBulkCurrentED : Nat := 0x1303002C
/-- UHC HcDoneHead (R870). -/
abbrev Adr.HcDoneHead : Nat := 0x13030030
/-- UHC HcFmInterval (R870). -/
abbrev Adr.HcFmInterval : Nat := 0x13030034
/-- UHC HcFmRemaining (R870). -/
abbrev Adr.HcFmRemaining : Nat := 0x13030038
/-- UHC HcFmNumber (R870). -/
abbrev Adr.HcFmNumber : Nat := 0x1303003C
/-- UHC HcPeriodicStart (R870). -/
abbrev Adr.HcPeriodicStart : Nat := 0x13030040
/-- UHC HcLSThreshold (R870). -/
abbrev Adr.HcLSThreshold : Nat := 0x13030044
/-- UHC HcRhDescriptorA (R870). -/
abbrev Adr.HcRhDescriptorA : Nat := 0x13030048
/-- UHC HcRhDescriptorB (R870). -/
abbrev Adr.HcRhDescriptorB : Nat := 0x1303004C
/-- UHC HcRhStatus (R870). -/
abbrev Adr.HcRhStatus : Nat := 0x13030050
/-- UHC HcRhPortStatus1 (R870). -/
abbrev Adr.HcRhPortStatus1 : Nat := 0x13030054
/-- UHC HcRhPortStatus2 (R870). -/
abbrev Adr.HcRhPortStatus2 : Nat := 0x13030058
/-- UDC UICR0 (R878). -/
abbrev Adr.UICR0 : Nat := 0x13040000
/-- UDC UISR0 (R879). -/
abbrev Adr.UISR0 : Nat := 0x13040004
/-- UDC UIBSR0 (R880). -/
abbrev Adr.UIBSR0 : Nat := 0x13040008
/-- UDC UIMPR0 (R880). -/
abbrev Adr.UIMPR0 : Nat := 0x1304000C
/-- UDC UICR1 (R878). -/
abbrev Adr.UICR1 : Nat := 0x13040020
/-- UDC UISR1 (R879). -/
abbrev Adr.UISR1 : Nat := 0x13040024
/-- UDC UIBSR1 (R880). -/
abbrev Adr.UIBSR1 : Nat := 0x13040028
/-- UDC UIMPR1 (R880). -/
abbrev Adr.UIMPR1 : Nat := 0x1304002C
/-- UDC UICR2 (R878). -/
abbrev Adr.UICR2 : Nat := 0x13040040
/-- UDC UISR2 (R879). -/
abbrev Adr.UISR2 : Nat := 0x13040044
/-- UDC UIBSR2 (R880). -/
abbrev Adr.UIBSR2 : Nat := 0x13040048
/-- UDC UIMPR2 (R880). -/
abbrev Adr.UIMPR2 : Nat := 0x1304004C
/-- UDC UICR3 (R878). -/
abbrev Adr.UICR3 : Nat := 0x13040060
/-- UDC UISR3 (R879). -/
abbrev Adr.UISR3 : Nat := 0x13040064
/-- UDC UIBSR3 (R880). -/
abbrev Adr.UIBSR3 : Nat := 0x13040068
/-- UDC UIMPR3 (R880). -/
abbrev Adr.UIMPR3 : Nat := 0x1304006C
/-- UDC UICR4 (R878). -/
abbrev Adr.UICR4 : Nat := 0x13040080
/-- UDC UISR4 (R879). -/
abbrev Adr.UISR4 : Nat := 0x13040084
/-- UDC UIBSR4 (R880). -/
abbrev Adr.UIBSR4 : Nat := 0x13040088
/-- UDC UIMPR4 (R880). -/
abbrev Adr.UIMPR4 : Nat := 0x1304008C
/-- UDC UOCR0 (R878). -/
abbrev Adr.UOCR0 : Nat := 0x13040200
/-- UDC UOSR0 (R879). -/
abbrev Adr.UOSR0 : Nat := 0x13040204
/-- UDC UOFNR0 (R880). -/
abbrev Adr.UOFNR0 : Nat := 0x13040208
/-- UDC UOMPR0 (R880). -/
abbrev Adr.UOMPR0 : Nat := 0x1304020C
/-- UDC UOBPR0 (R877). -/
abbrev Adr.UOBPR0 : Nat := 0x13040210
/-- UDC UOCR5 (R878). -/
abbrev Adr.UOCR5 : Nat := 0x130402A0
/-- UDC UOSR5 (R879). -/
abbrev Adr.UOSR5 : Nat := 0x130402A4
/-- UDC UOFNR5 (R880). -/
abbrev Adr.UOFNR5 : Nat := 0x130402A8
/-- UDC UOMPR5 (R880). -/
abbrev Adr.UOMPR5 : Nat := 0x130402AC
/-- UDC UOCR6 (R878). -/
abbrev Adr.UOCR6 : Nat := 0x130402C0
/-- UDC UOSR6 (R879). -/
abbrev Adr.UOSR6 : Nat := 0x130402C4
/-- UDC UOFNR6 (R880). -/
abbrev Adr.UOFNR6 : Nat := 0x130402C8
/-- UDC UOMPR6 (R880). -/
abbrev Adr.UOMPR6 : Nat := 0x130402CC
/-- UDC UOCR7 (R878). -/
abbrev Adr.UOCR7 : Nat := 0x130402E0
/-- UDC UOSR7 (R879). -/
abbrev Adr.UOSR7 : Nat := 0x130402E4
/-- UDC UOFNR7 (R880). -/
abbrev Adr.UOFNR7 : Nat := 0x130402E8
/-- UDC UOMPR7 (R880). -/
abbrev Adr.UOMPR7 : Nat := 0x130402EC
/-- UDC UDCFGR (R883). -/
abbrev Adr.UDCFGR : Nat := 0x13040400
/-- UDC UDCR (R883). -/
abbrev Adr.UDCR : Nat := 0x13040404
/-- UDC UDSR (R883). -/
abbrev Adr.UDSR : Nat := 0x13040408
/-- UDC UDIPR (R881). -/
abbrev Adr.UDIPR : Nat := 0x1304040C
/-- UDC UDIMR (R881). -/
abbrev Adr.UDIMR : Nat := 0x13040410
/-- UDC UIPR (R881). -/
abbrev Adr.UIPR : Nat := 0x13040414
/-- UDC UIMR (R881). -/
abbrev Adr.UIMR : Nat := 0x13040418
/-- UDC TCFM (R884). -/
abbrev Adr.TCFM : Nat := 0x1304041C
/-- UDC TZERO (R884). -/
abbrev Adr.TZERO : Nat := 0x13040420
/-- UDC USCAR (R883). -/
abbrev Adr.USCAR : Nat := 0x13040500
/-- UDC UINFR0 (R882). -/
abbrev Adr.UINFR0 : Nat := 0x13040504
/-- UDC UINFR1 (R882). -/
abbrev Adr.UINFR1 : Nat := 0x13040508
/-- UDC UINFR2 (R882). -/
abbrev Adr.UINFR2 : Nat := 0x1304050C
/-- UDC UINFR3 (R882). -/
abbrev Adr.UINFR3 : Nat := 0x13040510
/-- UDC UINFR4 (R882). -/
abbrev Adr.UINFR4 : Nat := 0x13040514
/-- UDC UINFR5 (R882). -/
abbrev Adr.UINFR5 : Nat := 0x13040518
/-- UDC UINFR6 (R882). -/
abbrev Adr.UINFR6 : Nat := 0x1304051C
/-- UDC UINFR7 (R882). -/
abbrev Adr.UINFR7 : Nat := 0x13040520
/-- UDC RFIFO (R884). -/
abbrev Adr.RFIFO : Nat := 0x13040800
/-- LCD LCDCFG (R891). -/
abbrev Adr.LCDCFG : Nat := 0x13050000
/-- LCD LCDVSYNC (R892). -/
abbrev Adr.LCDVSYNC : Nat := 0x13050004
/-- LCD LCDHSYNC (R892). -/
abbrev Adr.LCDHSYNC : Nat := 0x13050008
/-- LCD LCDVAT (R892). -/
abbrev Adr.LCDVAT : Nat := 0x1305000C
/-- LCD LCDDAH (R892). -/
abbrev Adr.LCDDAH : Nat := 0x13050010
/-- LCD LCDDAV (R892). -/
abbrev Adr.LCDDAV : Nat := 0x13050014
/-- LCD LCDPS (R892). -/
abbrev Adr.LCDPS : Nat := 0x13050018
/-- LCD LCDCLS (R892). -/
abbrev Adr.LCDCLS : Nat := 0x1305001C
/-- LCD LCDSPL (R892). -/
abbrev Adr.LCDSPL : Nat := 0x13050020
/-- LCD LCDREV (R892). -/
abbrev Adr.LCDREV : Nat := 0x13050024
/-- LCD LCDCTRL (R893). -/
abbrev Adr.LCDCTRL : Nat := 0x13050030
/-- LCD LCDSTATE (R894). -/
abbrev Adr.LCDSTATE : Nat := 0x13050034
/-- LCD LCDIID (R894). -/
abbrev Adr.LCDIID : Nat := 0x13050038
/-- LCD LCDDA0 (R895). -/
abbrev Adr.LCDDA0 : Nat := 0x13050040
/-- LCD LCDSA0 (R895). -/
abbrev Adr.LCDSA0 : Nat := 0x13050044
/-- LCD LCDFID0 (R895). -/
abbrev Adr.LCDFID0 : Nat := 0x13050048
/-- LCD LCDCMD0 (R895). -/
abbrev Adr.LCDCMD0 : Nat := 0x1305004C
/-- LCD LCDDA1 (R895). -/
abbrev Adr.LCDDA1 : Nat := 0x13050050
/-- LCD LCDSA1 (R895). -/
abbrev Adr.LCDSA1 : Nat := 0x13050054
/-- LCD LCDFID1 (R895). -/
abbrev Adr.LCDFID1 : Nat := 0x13050058
/-- LCD LCDCMD1 (R895). -/
abbrev Adr.LCDCMD1 : Nat := 0x1305005C
/-- CIM CIMCFG (R901). -/
abbrev Adr.CIMCFG : Nat := 0x13060000
/-- CIM CIMCR (R902). -/
abbrev Adr.CIMCR : Nat := 0x13060004
/-- CIM CIMST (R903). -/
abbrev Adr.CIMST : Nat := 0x13060008
/-- CIM CIMIID (R904). -/
abbrev Adr.CIMIID : Nat := 0x1306000C
/-- CIM CIMRXFIFO (R904). -/
abbrev Adr.CIMRXFIFO : Nat := 0x13060010
/-- CIM CIMDA (R904). -/
abbrev Adr.CIMDA : Nat := 0x13060020
/-- CIM CIMFA (R904). -/
abbrev Adr.CIMFA : Nat := 0x13060024
/-- CIM CIMFID (R904). -/
abbrev Adr.CIMFID : Nat := 0x13060028
/-- CIM CIMCMD (R904). -/
abbrev Adr.CIMCMD : Nat := 0x1306002C
/-- ETH MAC_CR (R917). -/
abbrev Adr.MAC_CR : Nat := 0x13100000
/-- ETH MAC_AHR (R918). -/
abbrev Adr.MAC_AHR : Nat := 0x13100004
/-- ETH MAC_ALR (R918). -/
abbrev Adr.MAC_ALR : Nat := 0x13100008
/-- ETH MAC_HTH (R918). -/
abbrev Adr.MAC_HTH : Nat := 0x1310000C
/-- ETH MAC_HTL (R918). -/
abbrev Adr.MAC_HTL : Nat := 0x13100010
/-- ETH MAC_MIA (R919). -/
abbrev Adr.MAC_MIA : Nat := 0x13100014
/-- ETH MAC_MID (R919). -/
abbrev Adr.MAC_MID : Nat := 0x13100018
/-- ETH MAC_FCR (R920). -/
abbrev Adr.MAC_FCR : Nat := 0x1310001C
/-- ETH MAC_VTR1 (R921). -/
abbrev Adr.MAC_VTR1 : Nat := 0x13100020
/-- ETH MAC_VTR2 (R921). -/
abbrev Adr.MAC_VTR2 : Nat := 0x13100024
/-- ETH MAC_WKFR (R922). -/
abbrev Adr.MAC_WKFR : Nat := 0x13100028
/-- ETH MAC_PMBR (R922). -/
abbrev Adr.MAC_PMBR : Nat := 0x1310002C
/-- ETH MAC_BMR (R911). -/
abbrev Adr.MAC_BMR : Nat := 0x13101000
/-- ETH MAC_TPDR (R912). -/
abbrev Adr.MAC_TPDR : Nat := 0x13101004
/-- ETH MAC_RPDR (R912). -/
abbrev Adr.MAC_RPDR : Nat := 0x13101008
/-- ETH MAC_RBAR (R912). -/
abbrev Adr.MAC_RBAR : Nat := 0x1310100C
/-- ETH MAC_TBAR (R912). -/
abbrev Adr.MAC_TBAR : Nat := 0x13101010
/-- ETH MAC_SR (R913). -/
abbrev Adr.MAC_SR : Nat := 0x13101014
/-- ETH MAC_OMR (R914). -/
abbrev Adr.MAC_OMR : Nat := 0x13101018
/-- ETH MAC_IER (R915). -/
abbrev Adr.MAC_IER : Nat := 0x1310101C
/-- ETH MAC_MFC (R916). -/
abbrev Adr.MAC_MFC : Nat := 0x13101020
/-- ETH MAC_HTAR (R916). -/
abbrev Adr.MAC_HTAR : Nat := 0x13101050
/-- ETH MAC_HRAR (R916). -/
abbrev Adr.MAC_HRAR : Nat := 0x13101054

/-- A block of device registers (R740). -/
inductive Block where
  | cpm | intc | ost | rtc | wdt | gpio | aic | msc | uart (u : BitVec 2) | scc | i2c | ssi | pwm (c : BitVec 1) | kbc | sba | emc
  | dmac | uhc | udc | lcd | cim | eth
deriving DecidableEq, Repr

/-- Access type of a register (R530). -/
inductive Access where
  | rw | r | w
deriving DecidableEq, Repr

/-- One register: `bits` wide; `mask` holds the bits a plain write stores. -/
structure IoReg where
  addr : Nat
  block : Block
  bits : Nat
  acc : Access
  reset : Word
  mask : Word
deriving DecidableEq, Repr

/-- The registers of the page at 0x10000000. -/
def ioPage10000 : List IoReg :=
  [ ⟨Adr.CPCCR0, .cpm, 32, .rw, 0xC00000, 0xFF5FFFFF⟩,
    ⟨Adr.LCR, .cpm, 32, .rw, 0xF8, 0xFF⟩,
    ⟨Adr.RSR, .cpm, 32, .rw, 0x1, 0x7⟩,
    ⟨Adr.CPPCR, .cpm, 32, .rw, 0x28080011, 0xFFFF03FF⟩,
    ⟨Adr.CPOCR, .cpm, 32, .rw, 0x150000, 0xFF01C0⟩,
    ⟨Adr.CDR, .cpm, 32, .rw, 0x0, 0x3F47FEF⟩,
    ⟨Adr.HCR, .cpm, 32, .rw, 0x0, 0x1E⟩,
    ⟨Adr.HRER, .cpm, 32, .rw, 0x3, 0xA3FF⟩,
    ⟨Adr.HFER, .cpm, 32, .rw, 0x3, 0xA3FF⟩,
    ⟨Adr.HER, .cpm, 32, .rw, 0x3, 0xA3FF⟩,
    ⟨Adr.HSR, .cpm, 32, .rw, 0x0, 0xA3FF⟩,
    ⟨Adr.HGSR0, .cpm, 32, .rw, 0x0, 0xFFFFFFFF⟩,
    ⟨Adr.HGSR1, .cpm, 32, .rw, 0x0, 0xFFFFFFFF⟩,
    ⟨Adr.HGSR2, .cpm, 32, .rw, 0x0, 0xFFFFFFFF⟩,
    ⟨Adr.HSPR, .cpm, 32, .rw, 0x0, 0xFFFFFFFF⟩,
    ⟨Adr.HGSR3, .cpm, 32, .rw, 0x0, 0x7FFFFFF⟩,
    ⟨Adr.CPCCR1, .cpm, 32, .rw, 0x0, 0x1FF⟩ ]

/-- The registers of the page at 0x10001000. -/
def ioPage10001 : List IoReg :=
  [ ⟨Adr.ICSR, .intc, 32, .r, 0x0, 0xFFFFFFFF⟩,
    ⟨Adr.ICMR, .intc, 32, .rw, 0x0, 0xFFFFFFFF⟩,
    ⟨Adr.ICMSR, .intc, 32, .w, 0x0, 0xFFFFFFFF⟩,
    ⟨Adr.ICMCR, .intc, 32, .w, 0x0, 0xFFFFFFFF⟩,
    ⟨Adr.ICPR, .intc, 32, .r, 0x0, 0xFFFFFFFF⟩ ]

/-- The registers of the page at 0x10002000. -/
def ioPage10002 : List IoReg :=
  [ ⟨Adr.OTER, .ost, 8, .rw, 0x0, 0x7⟩,
    ⟨Adr.OTDR0, .ost, 32, .rw, 0xFFFFFFFF, 0xFFFFFFFF⟩,
    ⟨Adr.OTCNT0, .ost, 32, .rw, 0xFFFFFFFF, 0xFFFFFFFF⟩,
    ⟨Adr.OTCSR0, .ost, 16, .rw, 0x0, 0x67⟩,
    ⟨Adr.OTCRD0, .ost, 32, .r, 0x0, 0x0⟩,
    ⟨Adr.OTDR1, .ost, 32, .rw, 0xFFFFFFFF, 0xFFFFFFFF⟩,
    ⟨Adr.OTCNT1, .ost, 32, .rw, 0xFFFFFFFF, 0xFFFFFFFF⟩,
    ⟨Adr.OTCSR1, .ost, 16, .rw, 0x0, 0x67⟩,
    ⟨Adr.OTCRD1, .ost, 32, .r, 0x0, 0x0⟩,
    ⟨Adr.OTDR2, .ost, 32, .rw, 0xFFFFFFFF, 0xFFFFFFFF⟩,
    ⟨Adr.OTCNT2, .ost, 32, .rw, 0xFFFFFFFF, 0xFFFFFFFF⟩,
    ⟨Adr.OTCSR2, .ost, 16, .rw, 0x0, 0x67⟩,
    ⟨Adr.OTCRD2, .ost, 32, .r, 0x0, 0x0⟩ ]

/-- The registers of the page at 0x10003000. -/
def ioPage10003 : List IoReg :=
  [ ⟨Adr.RTCCR, .rtc, 32, .rw, 0x1, 0x7D⟩,
    ⟨Adr.RTCSR, .rtc, 32, .rw, 0x0, 0xFFFFFFFF⟩,
    ⟨Adr.RTCSAR, .rtc, 32, .rw, 0x0, 0xFFFFFFFF⟩,
    ⟨Adr.RTCGR, .rtc, 32, .rw, 0x0, 0x83FFFFFF⟩ ]

/-- The registers of the page at 0x10004000. -/
def ioPage10004 : List IoReg :=
  [ ⟨Adr.WDTCSR, .wdt, 8, .rw, 0x0, 0x10⟩,
    ⟨Adr.WDTCNT, .wdt, 32, .rw, 0x0, 0xFFFFFFFF⟩ ]

/-- The registers of the page at 0x10010000. -/
def ioPage10010 : List IoReg :=
  [ ⟨Adr.GPD0, .gpio, 32, .rw, 0x0, 0x3FA33FFF⟩,
    ⟨Adr.GPDIR0, .gpio, 32, .rw, 0x0, 0x3FA33FFF⟩,
    ⟨Adr.GPPE0, .gpio, 32, .rw, 0xFFFFFFFF, 0x3FA33FFF⟩,
    ⟨Adr.GPFSL0, .gpio, 32, .rw, 0x0, 0xFFFFFFF⟩,
    ⟨Adr.GPFSH0, .gpio, 32, .rw, 0x0, 0xFFFCC0F⟩,
    ⟨Adr.GPITL0, .gpio, 32, .rw, 0x0, 0xFFFFFFF⟩,
    ⟨Adr.GPITH0, .gpio, 32, .rw, 0x0, 0xFFFCC0F⟩,
    ⟨Adr.GPIE0, .gpio, 32, .rw, 0x0, 0x3FA33FFF⟩,
    ⟨Adr.GPIM0, .gpio, 32, .rw, 0x0, 0x3FA33FFF⟩,
    ⟨Adr.GPIRQ0, .gpio, 32, .rw, 0x0, 0x3FA33FFF⟩,
    ⟨Adr.GPD1, .gpio, 32, .rw, 0x0, 0xFFFFFFFF⟩,
    ⟨Adr.GPDIR1, .gpio, 32, .rw, 0x0, 0xFFFFFFFF⟩,
    ⟨Adr.GPPE1, .gpio, 32, .rw, 0xFFFFFFFF, 0xFFFFFFFF⟩,
    ⟨Adr.GPFSL1, .gpio, 32, .rw, 0x0, 0xFFFFFFFF⟩,
    ⟨Adr.GPFSH1, .gpio, 32, .rw, 0x0, 0xFFFFFFFF⟩,
    ⟨Adr.GPITL1, .gpio, 32, .rw, 0x0, 0xFFFFFFFF⟩,
    ⟨Adr.GPITH1, .gpio, 32, .rw, 0x0, 0xFFFFFFFF⟩,
    ⟨Adr.GPIE1, .gpio, 32, .rw, 0x0, 0xFFFFFFFF⟩,
    ⟨Adr.GPIM1, .gpio, 32, .rw, 0x0, 0xFFFFFFFF⟩,
    ⟨Adr.GPIRQ1, .gpio, 32, .rw, 0x0, 0xFFFFFFFF⟩,
    ⟨Adr.GPD2, .gpio, 32, .rw, 0x0, 0xFFFFFFFF⟩,
    ⟨Adr.GPDIR2, .gpio, 32, .rw, 0x0, 0xFFFFFFFF⟩,
    ⟨Adr.GPPE2, .gpio, 32, .rw, 0xFFFFFFFF, 0xFFFFFFFF⟩,
    ⟨Adr.GPFSL2, .gpio, 32, .rw, 0x0, 0xFFFFFFFF⟩,
    ⟨Adr.GPFSH2, .gpio, 32, .rw, 0x0, 0xFFFFFFFF⟩,
    ⟨Adr.GPITL2, .gpio, 32, .rw, 0x0, 0xFFFFFFFF⟩,
    ⟨Adr.GPITH2, .gpio, 32, .rw, 0x0, 0xFFFFFFFF⟩,
    ⟨Adr.GPIE2, .gpio, 32, .rw, 0x0, 0xFFFFFFFF⟩,
    ⟨Adr.GPIM2, .gpio, 32, .rw, 0x0, 0xFFFFFFFF⟩,
    ⟨Adr.GPIRQ2, .gpio, 32, .rw, 0x0, 0xFFFFFFFF⟩,
    ⟨Adr.GPD3, .gpio, 32, .rw, 0x0, 0xFFFFFFFF⟩,
    ⟨Adr.GPDIR3, .gpio, 32, .rw, 0x0, 0xFFFFFFFF⟩,
    ⟨Adr.GPPE3, .gpio, 32, .rw, 0xFFFFFFFF, 0xFFFFFFFF⟩,
    ⟨Adr.GPFSL3, .gpio, 32, .rw, 0x0, 0xFFFFFFFF⟩,
    ⟨Adr.GPFSH3, .gpio, 32, .rw, 0x0, 0xFFFFFFFF⟩,
    ⟨Adr.GPITL3, .gpio, 32, .rw, 0x0, 0xFFFFFFFF⟩,
    ⟨Adr.GPITH3, .gpio, 32, .rw, 0x0, 0xFFFFFFFF⟩,
    ⟨Adr.GPIE3, .gpio, 32, .rw, 0x0, 0xFFFFFFFF⟩,
    ⟨Adr.GPIM3, .gpio, 32, .rw, 0x0, 0xFFFFFFFF⟩,
    ⟨Adr.GPIRQ3, .gpio, 32, .rw, 0x0, 0xFFFFFFFF⟩ ]

/-- The registers of the page at 0x10020000. -/
def ioPage10020 : List IoReg :=
  [ ⟨Adr.AICFR, .aic, 32, .rw, 0x7700, 0xFF17⟩,
    ⟨Adr.AICCR, .aic, 32, .rw, 0x0, 0xCC7F⟩,
    ⟨Adr.ACCR1, .aic, 32, .rw, 0x0, 0x3FF⟩,
    ⟨Adr.ACCR2, .aic, 32, .rw, 0x0, 0x703CF⟩,
    ⟨Adr.I2SCR, .aic, 32, .rw, 0x0, 0x100F⟩,
    ⟨Adr.AICSR, .aic, 32, .rw, 0x0, 0x60⟩,
    ⟨Adr.ACSR, .aic, 32, .rw, 0x0, 0x70000⟩,
    ⟨Adr.I2SSR, .aic, 32, .r, 0x0, 0x0⟩,
    ⟨Adr.ACCAR, .aic, 32, .rw, 0x0, 0xFFFFF⟩,
    ⟨Adr.ACCDR, .aic, 32, .rw, 0x0, 0xFFFFF⟩,
    ⟨Adr.ACSAR, .aic, 32, .r, 0x0, 0x0⟩,
    ⟨Adr.ACSDR, .aic, 32, .r, 0x0, 0x0⟩,
    ⟨Adr.I2SDIV, .aic, 32, .rw, 0x1A, 0x7F⟩,
    ⟨Adr.AICDR, .aic, 32, .rw, 0x0, 0x0⟩ ]

/-- The registers of the page at 0x10021000. -/
def ioPage10021 : List IoReg :=
  [ ⟨Adr.MSC_STRPCL, .msc, 16, .w, 0x0, 0x0⟩,
    ⟨Adr.MSC_STAT, .msc, 32, .r, 0x0, 0x0⟩,
    ⟨Adr.MSC_CLKRT, .msc, 16, .rw, 0x0, 0x7⟩,
    ⟨Adr.MSC_CMDAT, .msc, 32, .rw, 0x0, 0xFFF⟩,
    ⟨Adr.MSC_RESTO, .msc, 16, .rw, 0x40, 0xFF⟩,
    ⟨Adr.MSC_RDTO, .msc, 16, .rw, 0xFFFF, 0xFFFF⟩,
    ⟨Adr.MSC_BLKLEN, .msc, 16, .rw, 0x0, 0xFFF⟩,
    ⟨Adr.MSC_NOB, .msc, 16, .rw, 0x0, 0xFFFF⟩,
    ⟨Adr.MSC_SNOB, .msc, 16, .r, 0x0, 0x0⟩,
    ⟨Adr.MSC_IMASK, .msc, 16, .rw, 0xFF, 0xE7⟩,
    ⟨Adr.MSC_IREG, .msc, 16, .rw, 0x0, 0x7⟩,
    ⟨Adr.MSC_CMD, .msc, 8, .rw, 0x0, 0x3F⟩,
    ⟨Adr.MSC_ARG, .msc, 32, .rw, 0x0, 0xFFFFFFFF⟩,
    ⟨Adr.MSC_RES, .msc, 16, .r, 0x0, 0x0⟩,
    ⟨Adr.MSC_RXFIFO, .msc, 32, .r, 0x0, 0x0⟩,
    ⟨Adr.MSC_TXFIFO, .msc, 32, .w, 0x0, 0x0⟩ ]

/-- The registers of the page at 0x10030000. -/
def ioPage10030 : List IoReg :=
  [ ⟨Adr.URBR_UTHR_UDLLR0, .uart 0, 8, .rw, 0x0, 0xFF⟩,
    ⟨Adr.UIER_UDLHR0, .uart 0, 8, .rw, 0x0, 0xFF⟩,
    ⟨Adr.UIIR_UFCR0, .uart 0, 8, .rw, 0x0, 0xFF⟩,
    ⟨Adr.ULCR0, .uart 0, 8, .rw, 0x0, 0xFF⟩,
    ⟨Adr.UMCR0, .uart 0, 8, .rw, 0x0, 0xFF⟩,
    ⟨Adr.ULSR0, .uart 0, 8, .r, 0x60, 0xFF⟩,
    ⟨Adr.UMSR0, .uart 0, 8, .r, 0x0, 0xFF⟩,
    ⟨Adr.USPR0, .uart 0, 8, .rw, 0x0, 0xFF⟩,
    ⟨Adr.ISR0, .uart 0, 8, .rw, 0x0, 0xFF⟩ ]

/-- The registers of the page at 0x10031000. -/
def ioPage10031 : List IoReg :=
  [ ⟨Adr.URBR_UTHR_UDLLR1, .uart 1, 8, .rw, 0x0, 0xFF⟩,
    ⟨Adr.UIER_UDLHR1, .uart 1, 8, .rw, 0x0, 0xFF⟩,
    ⟨Adr.UIIR_UFCR1, .uart 1, 8, .rw, 0x0, 0xFF⟩,
    ⟨Adr.ULCR1, .uart 1, 8, .rw, 0x0, 0xFF⟩,
    ⟨Adr.UMCR1, .uart 1, 8, .rw, 0x0, 0xFF⟩,
    ⟨Adr.ULSR1, .uart 1, 8, .r, 0x60, 0xFF⟩,
    ⟨Adr.UMSR1, .uart 1, 8, .r, 0x0, 0xFF⟩,
    ⟨Adr.USPR1, .uart 1, 8, .rw, 0x0, 0xFF⟩,
    ⟨Adr.ISR1, .uart 1, 8, .rw, 0x0, 0xFF⟩ ]

/-- The registers of the page at 0x10032000. -/
def ioPage10032 : List IoReg :=
  [ ⟨Adr.URBR_UTHR_UDLLR2, .uart 2, 8, .rw, 0x0, 0xFF⟩,
    ⟨Adr.UIER_UDLHR2, .uart 2, 8, .rw, 0x0, 0xFF⟩,
    ⟨Adr.UIIR_UFCR2, .uart 2, 8, .rw, 0x0, 0xFF⟩,
    ⟨Adr.ULCR2, .uart 2, 8, .rw, 0x0, 0xFF⟩,
    ⟨Adr.UMCR2, .uart 2, 8, .rw, 0x0, 0xFF⟩,
    ⟨Adr.ULSR2, .uart 2, 8, .r, 0x60, 0xFF⟩,
    ⟨Adr.UMSR2, .uart 2, 8, .r, 0x0, 0xFF⟩,
    ⟨Adr.USPR2, .uart 2, 8, .rw, 0x0, 0xFF⟩,
    ⟨Adr.ISR2, .uart 2, 8, .rw, 0x0, 0xFF⟩ ]

/-- The registers of the page at 0x10033000. -/
def ioPage10033 : List IoReg :=
  [ ⟨Adr.URBR_UTHR_UDLLR3, .uart 3, 8, .rw, 0x0, 0xFF⟩,
    ⟨Adr.UIER_UDLHR3, .uart 3, 8, .rw, 0x0, 0xFF⟩,
    ⟨Adr.UIIR_UFCR3, .uart 3, 8, .rw, 0x0, 0xFF⟩,
    ⟨Adr.ULCR3, .uart 3, 8, .rw, 0x0, 0xFF⟩,
    ⟨Adr.UMCR3, .uart 3, 8, .rw, 0x0, 0xFF⟩,
    ⟨Adr.ULSR3, .uart 3, 8, .r, 0x60, 0xFF⟩,
    ⟨Adr.UMSR3, .uart 3, 8, .r, 0x0, 0xFF⟩,
    ⟨Adr.USPR3, .uart 3, 8, .rw, 0x0, 0xFF⟩,
    ⟨Adr.ISR3, .uart 3, 8, .rw, 0x0, 0xFF⟩ ]

/-- The registers of the page at 0x10041000. -/
def ioPage10041 : List IoReg :=
  [ ⟨Adr.SCCDR, .scc, 8, .rw, 0x0, 0x0⟩,
    ⟨Adr.SCCFDR, .scc, 8, .r, 0x0, 0x0⟩,
    ⟨Adr.SCCCR, .scc, 32, .rw, 0x0, 0xE303FFCF⟩,
    ⟨Adr.SCCSR, .scc, 16, .rw, 0x8000, 0x1491⟩,
    ⟨Adr.SCCTFR, .scc, 16, .rw, 0x173, 0x7FF⟩,
    ⟨Adr.SCCEGTR, .scc, 8, .rw, 0x0, 0xFF⟩,
    ⟨Adr.SCCECR, .scc, 32, .rw, 0x0, 0xFFFFF⟩,
    ⟨Adr.SCCRTOR, .scc, 8, .rw, 0x0, 0xFF⟩ ]

/-- The registers of the page at 0x10042000. -/
def ioPage10042 : List IoReg :=
  [ ⟨Adr.I2CDR, .i2c, 8, .rw, 0x0, 0xFF⟩,
    ⟨Adr.I2CCR, .i2c, 8, .rw, 0x0, 0x1F⟩,
    ⟨Adr.I2CSR, .i2c, 8, .rw, 0x4, 0x3⟩,
    ⟨Adr.I2CGR, .i2c, 16, .rw, 0x0, 0xFFFF⟩ ]

/-- The registers of the page at 0x10043000. -/
def ioPage10043 : List IoReg :=
  [ ⟨Adr.SSIDR, .ssi, 32, .rw, 0x0, 0x0⟩,
    ⟨Adr.SSICR0, .ssi, 16, .rw, 0x0, 0xFF41⟩,
    ⟨Adr.SSICR1, .ssi, 32, .rw, 0x7060, 0xFFF0FFF3⟩,
    ⟨Adr.SSISR, .ssi, 32, .rw, 0x0, 0x3⟩,
    ⟨Adr.SSIITR, .ssi, 16, .rw, 0x0, 0xFFFF⟩,
    ⟨Adr.SSIICR, .ssi, 8, .rw, 0x0, 0x7⟩,
    ⟨Adr.SSIGR, .ssi, 16, .rw, 0x0, 0xFF⟩ ]

/-- The registers of the page at 0x10050000. -/
def ioPage10050 : List IoReg :=
  [ ⟨Adr.PWMCTR0, .pwm 0, 8, .rw, 0x0, 0xFF⟩,
    ⟨Adr.PWMPER0, .pwm 0, 16, .rw, 0x4, 0x3FF⟩,
    ⟨Adr.PWMDUT0, .pwm 0, 16, .rw, 0x0, 0x7FF⟩ ]

/-- The registers of the page at 0x10051000. -/
def ioPage10051 : List IoReg :=
  [ ⟨Adr.PWMCTR1, .pwm 1, 8, .rw, 0x0, 0xFF⟩,
    ⟨Adr.PWMPER1, .pwm 1, 16, .rw, 0x4, 0x3FF⟩,
    ⟨Adr.PWMDUT1, .pwm 1, 16, .rw, 0x0, 0x7FF⟩ ]

/-- The registers of the page at 0x10062000. -/
def ioPage10062 : List IoReg :=
  [ ⟨Adr.KRDR_KTDR, .kbc, 8, .rw, 0x0, 0x0⟩,
    ⟨Adr.KCSR_KCCR, .kbc, 8, .rw, 0x0, 0x0⟩ ]

/-- The registers of the page at 0x13000000. -/
def ioPage13000 : List IoReg :=
  [ ⟨Adr.SBA_CNTL, .sba, 32, .rw, 0x0, 0x8F⟩ ]

/-- The registers of the page at 0x13010000. -/
def ioPage13010 : List IoReg :=
  [ ⟨Adr.BCR, .emc, 32, .rw, 0x1, 0x1⟩,
    ⟨Adr.SMCR0, .emc, 32, .rw, 0xFFF7700, 0xFFF77CF⟩,
    ⟨Adr.SMCR1, .emc, 32, .rw, 0xFFF7700, 0xFFF77CF⟩,
    ⟨Adr.SMCR2, .emc, 32, .rw, 0xFFF7700, 0xFFF77CF⟩,
    ⟨Adr.SMCR3, .emc, 32, .rw, 0xFFF7700, 0xFFF77CF⟩,
    ⟨Adr.SMCR4, .emc, 32, .rw, 0xFFF7700, 0xFFF77CF⟩,
    ⟨Adr.SMCR5, .emc, 32, .rw, 0xFFF7700, 0xFFF77CF⟩,
    ⟨Adr.SACR0, .emc, 32, .rw, 0x1CFC, 0xFFFF⟩,
    ⟨Adr.SACR1, .emc, 32, .rw, 0x18FC, 0xFFFF⟩,
    ⟨Adr.SACR2, .emc, 32, .rw, 0x16FE, 0xFFFF⟩,
    ⟨Adr.SACR3, .emc, 32, .rw, 0x14FE, 0xFFFF⟩,
    ⟨Adr.SACR4, .emc, 32, .rw, 0xCFC, 0xFFFF⟩,
    ⟨Adr.SACR5, .emc, 32, .rw, 0x8FC, 0xFFFF⟩,
    ⟨Adr.NFCSR, .emc, 32, .rw, 0x80, 0x7⟩,
    ⟨Adr.NFECC, .emc, 32, .r, 0x0, 0x0⟩,
    ⟨Adr.DMCR, .emc, 32, .rw, 0x0, 0x9FBEFF7F⟩,
    ⟨Adr.EMC_RTCSR, .emc, 16, .rw, 0x0, 0x87⟩,
    ⟨Adr.RTCNT, .emc, 16, .rw, 0x0, 0xFF⟩,
    ⟨Adr.RTCOR, .emc, 16, .rw, 0x0, 0xFF⟩,
    ⟨Adr.DMAR1, .emc, 32, .rw, 0x20F8, 0xFFFF⟩,
    ⟨Adr.DMAR2, .emc, 32, .rw, 0x28F8, 0xFFFF⟩ ]

/-- The registers of the page at 0x13020000. -/
def ioPage13020 : List IoReg :=
  [ ⟨Adr.DSA0, .dmac, 32, .rw, 0x0, 0xFFFFFFFF⟩,
    ⟨Adr.DDA0, .dmac, 32, .rw, 0x0, 0xFFFFFFFF⟩,
    ⟨Adr.DTC0, .dmac, 32, .rw, 0x0, 0xFFFFFF⟩,
    ⟨Adr.DRT0, .dmac, 32, .rw, 0x0, 0x1F⟩,
    ⟨Adr.DCS0, .dmac, 32, .rw, 0x0, 0xF8CFF79F⟩,
    ⟨Adr.DSA1, .dmac, 32, .rw, 0x0, 0xFFFFFFFF⟩,
    ⟨Adr.DDA1, .dmac, 32, .rw, 0x0, 0xFFFFFFFF⟩,
    ⟨Adr.DTC1, .dmac, 32, .rw, 0x0, 0xFFFFFF⟩,
    ⟨Adr.DRT1, .dmac, 32, .rw, 0x0, 0x1F⟩,
    ⟨Adr.DCS1, .dmac, 32, .rw, 0x0, 0xF8CFF79F⟩,
    ⟨Adr.DSA2, .dmac, 32, .rw, 0x0, 0xFFFFFFFF⟩,
    ⟨Adr.DDA2, .dmac, 32, .rw, 0x0, 0xFFFFFFFF⟩,
    ⟨Adr.DTC2, .dmac, 32, .rw, 0x0, 0xFFFFFF⟩,
    ⟨Adr.DRT2, .dmac, 32, .rw, 0x0, 0x1F⟩,
    ⟨Adr.DCS2, .dmac, 32, .rw, 0x0, 0xF8CFF79F⟩,
    ⟨Adr.DSA3, .dmac, 32, .rw, 0x0, 0xFFFFFFFF⟩,
    ⟨Adr.DDA3, .dmac, 32, .rw, 0x0, 0xFFFFFFFF⟩,
    ⟨Adr.DTC3, .dmac, 32, .rw, 0x0, 0xFFFFFF⟩,
    ⟨Adr.DRT3, .dmac, 32, .rw, 0x0, 0x1F⟩,
    ⟨Adr.DCS3, .dmac, 32, .rw, 0x0, 0xF8CFF79F⟩,
    ⟨Adr.DSA4, .dmac, 32, .rw, 0x0, 0xFFFFFFFF⟩,
    ⟨Adr.DDA4, .dmac, 32, .rw, 0x0, 0xFFFFFFFF⟩,
    ⟨Adr.DTC4, .dmac, 32, .rw, 0x0, 0xFFFFFF⟩,
    ⟨Adr.DRT4, .dmac, 32, .rw, 0x0, 0x1F⟩,
    ⟨Adr.DCS4, .dmac, 32, .rw, 0x0, 0xF8CFF79F⟩,
    ⟨Adr.DSA5, .dmac, 32, .rw, 0x0, 0xFFFFFFFF⟩,
    ⟨Adr.DDA5, .dmac, 32, .rw, 0x0, 0xFFFFFFFF⟩,
    ⟨Adr.DTC5, .dmac, 32, .rw, 0x0, 0xFFFFFF⟩,
    ⟨Adr.DRT5, .dmac, 32, .rw, 0x0, 0x1F⟩,
    ⟨Adr.DCS5, .dmac, 32, .rw, 0x0, 0xF8CFF79F⟩,
    ⟨Adr.DIRQP, .dmac, 32, .r, 0x0, 0x0⟩,
    ⟨Adr.DMAC, .dmac, 32, .rw, 0x0, 0x30D⟩ ]

/-- The registers of the page at 0x13030000. -/
def ioPage13030 : List IoReg :=
  [ ⟨Adr.HcRevision, .uhc, 32, .r, 0x10, 0xFFFFFFFF⟩,
    ⟨Adr.HcControl, .uhc, 32, .rw, 0x0, 0xFFFFFFFF⟩,
    ⟨Adr.HcCommandStatus, .uhc, 32, .rw, 0x0, 0xFFFFFFFF⟩,
    ⟨Adr.HcInterruptStatus, .uhc, 32, .rw, 0x0, 0xFFFFFFFF⟩,
    ⟨Adr.HcInterruptEnable, .uhc, 32, .rw, 0x0, 0xFFFFFFFF⟩,
    ⟨Adr.HcInterruptDisable, .uhc, 32, .rw, 0x0, 0xFFFFFFFF⟩,
    ⟨Adr.HcHCCA, .uhc, 32, .rw, 0x0, 0xFFFFFFFF⟩,
    ⟨Adr.HcPeriodCurrentED, .uhc, 32, .r, 0x0, 0xFFFFFFFF⟩,
    ⟨Adr.HcControlHeadED, .uhc, 32, .rw, 0x0, 0xFFFFFFFF⟩,
    ⟨Adr.HcControlCurrentED, .uhc, 32, .rw, 0x0, 0xFFFFFFFF⟩,
    ⟨Adr.HcBulkHeadED, .uhc, 32, .rw, 0x0, 0xFFFFFFFF⟩,
    ⟨Adr.HcBulkCurrentED, .uhc, 32, .rw, 0x0, 0xFFFFFFFF⟩,
    ⟨Adr.HcDoneHead, .uhc, 32, .r, 0x0, 0xFFFFFFFF⟩,
    ⟨Adr.HcFmInterval, .uhc, 32, .rw, 0x2EDF, 0xFFFFFFFF⟩,
    ⟨Adr.HcFmRemaining, .uhc, 32, .r, 0x0, 0xFFFFFFFF⟩,
    ⟨Adr.HcFmNumber, .uhc, 32, .r, 0x0, 0xFFFFFFFF⟩,
    ⟨Adr.HcPeriodicStart, .uhc, 32, .rw, 0x0, 0xFFFFFFFF⟩,
    ⟨Adr.HcLSThreshold, .uhc, 32, .rw, 0x628, 0xFFFFFFFF⟩,
    ⟨Adr.HcRhDescriptorA, .uhc, 32, .rw, 0x2000902, 0xFFFFFFFF⟩,
    ⟨Adr.HcRhDescriptorB, .uhc, 32, .rw, 0x60000, 0xFFFFFFFF⟩,
    ⟨Adr.HcRhStatus, .uhc, 32, .rw, 0x0, 0xFFFFFFFF⟩,
    ⟨Adr.HcRhPortStatus1, .uhc, 32, .rw, 0x100, 0xFFFFFFFF⟩,
    ⟨Adr.HcRhPortStatus2, .uhc, 32, .rw, 0x100, 0xFFFFFFFF⟩ ]

/-- The registers of the page at 0x13040000, part 1. -/
def ioPage13040a : List IoReg :=
  [ ⟨Adr.UICR0, .udc, 32, .rw, 0x0, 0x37⟩,
    ⟨Adr.UISR0, .udc, 32, .rw, 0x0, 0x0⟩,
    ⟨Adr.UIBSR0, .udc, 32, .rw, 0x0, 0xFFFF⟩,
    ⟨Adr.UIMPR0, .udc, 32, .rw, 0x0, 0xFFFF⟩,
    ⟨Adr.UICR1, .udc, 32, .rw, 0x0, 0x37⟩,
    ⟨Adr.UISR1, .udc, 32, .rw, 0x0, 0x0⟩,
    ⟨Adr.UIBSR1, .udc, 32, .rw, 0x0, 0xFFFF⟩,
    ⟨Adr.UIMPR1, .udc, 32, .rw, 0x0, 0xFFFF⟩,
    ⟨Adr.UICR2, .udc, 32, .rw, 0x0, 0x37⟩,
    ⟨Adr.UISR2, .udc, 32, .rw, 0x0, 0x0⟩,
    ⟨Adr.UIBSR2, .udc, 32, .rw, 0x0, 0xFFFF⟩,
    ⟨Adr.UIMPR2, .udc, 32, .rw, 0x0, 0xFFFF⟩,
    ⟨Adr.UICR3, .udc, 32, .rw, 0x0, 0x37⟩,
    ⟨Adr.UISR3, .udc, 32, .rw, 0x0, 0x0⟩,
    ⟨Adr.UIBSR3, .udc, 32, .rw, 0x0, 0xFFFF⟩,
    ⟨Adr.UIMPR3, .udc, 32, .rw, 0x0, 0xFFFF⟩,
    ⟨Adr.UICR4, .udc, 32, .rw, 0x0, 0x37⟩,
    ⟨Adr.UISR4, .udc, 32, .rw, 0x0, 0x0⟩,
    ⟨Adr.UIBSR4, .udc, 32, .rw, 0x0, 0xFFFF⟩,
    ⟨Adr.UIMPR4, .udc, 32, .rw, 0x0, 0xFFFF⟩,
    ⟨Adr.UOCR0, .udc, 32, .rw, 0x0, 0x37⟩,
    ⟨Adr.UOSR0, .udc, 32, .rw, 0x0, 0x0⟩,
    ⟨Adr.UOFNR0, .udc, 32, .rw, 0x0, 0x0⟩,
    ⟨Adr.UOMPR0, .udc, 32, .rw, 0x0, 0xFFFF⟩,
    ⟨Adr.UOBPR0, .udc, 32, .rw, 0x0, 0xFFFFFFFF⟩,
    ⟨Adr.UOCR5, .udc, 32, .rw, 0x0, 0x37⟩,
    ⟨Adr.UOSR5, .udc, 32, .rw, 0x0, 0x0⟩,
    ⟨Adr.UOFNR5, .udc, 32, .rw, 0x0, 0x0⟩,
    ⟨Adr.UOMPR5, .udc, 32, .rw, 0x0, 0xFFFF⟩,
    ⟨Adr.UOCR6, .udc, 32, .rw, 0x0, 0x37⟩,
    ⟨Adr.UOSR6, .udc, 32, .rw, 0x0, 0x0⟩,
    ⟨Adr.UOFNR6, .udc, 32, .rw, 0x0, 0x0⟩,
    ⟨Adr.UOMPR6, .udc, 32, .rw, 0x0, 0xFFFF⟩,
    ⟨Adr.UOCR7, .udc, 32, .rw, 0x0, 0x37⟩,
    ⟨Adr.UOSR7, .udc, 32, .rw, 0x0, 0x0⟩,
    ⟨Adr.UOFNR7, .udc, 32, .rw, 0x0, 0x0⟩,
    ⟨Adr.UOMPR7, .udc, 32, .rw, 0x0, 0xFFFF⟩,
    ⟨Adr.UDCFGR, .udc, 32, .rw, 0x0, 0x1F⟩,
    ⟨Adr.UDCR, .udc, 32, .rw, 0x0, 0x1⟩,
    ⟨Adr.UDSR, .udc, 32, .r, 0x0, 0x0⟩ ]

/-- The registers of the page at 0x13040000, part 2. -/
def ioPage13040b : List IoReg :=
  [ ⟨Adr.UDIPR, .udc, 32, .rw, 0x0, 0x3B⟩,
    ⟨Adr.UDIMR, .udc, 32, .rw, 0x0, 0x3B⟩,
    ⟨Adr.UIPR, .udc, 32, .rw, 0x0, 0xE1001F⟩,
    ⟨Adr.UIMR, .udc, 32, .rw, 0x0, 0xE1001F⟩,
    ⟨Adr.TCFM, .udc, 32, .w, 0x0, 0x0⟩,
    ⟨Adr.TZERO, .udc, 32, .w, 0x0, 0x0⟩,
    ⟨Adr.USCAR, .udc, 32, .rw, 0x0, 0xFFFF⟩,
    ⟨Adr.UINFR0, .udc, 32, .rw, 0x0, 0x1FFFFFFF⟩,
    ⟨Adr.UINFR1, .udc, 32, .rw, 0x0, 0x1FFFFFFF⟩,
    ⟨Adr.UINFR2, .udc, 32, .rw, 0x0, 0x1FFFFFFF⟩,
    ⟨Adr.UINFR3, .udc, 32, .rw, 0x0, 0x1FFFFFFF⟩,
    ⟨Adr.UINFR4, .udc, 32, .rw, 0x0, 0x1FFFFFFF⟩,
    ⟨Adr.UINFR5, .udc, 32, .rw, 0x0, 0x1FFFFFFF⟩,
    ⟨Adr.UINFR6, .udc, 32, .rw, 0x0, 0x1FFFFFFF⟩,
    ⟨Adr.UINFR7, .udc, 32, .rw, 0x0, 0x1FFFFFFF⟩,
    ⟨Adr.RFIFO, .udc, 32, .r, 0x0, 0x0⟩ ]

/-- The registers of the page at 0x13050000. -/
def ioPage13050 : List IoReg :=
  [ ⟨Adr.LCDCFG, .lcd, 32, .rw, 0x0, 0xFFFF3F⟩,
    ⟨Adr.LCDVSYNC, .lcd, 32, .rw, 0x0, 0x7FF⟩,
    ⟨Adr.LCDHSYNC, .lcd, 32, .rw, 0x0, 0x7FF07FF⟩,
    ⟨Adr.LCDVAT, .lcd, 32, .rw, 0x0, 0x7FF07FF⟩,
    ⟨Adr.LCDDAH, .lcd, 32, .rw, 0x0, 0x7FF07FF⟩,
    ⟨Adr.LCDDAV, .lcd, 32, .rw, 0x0, 0x7FF07FF⟩,
    ⟨Adr.LCDPS, .lcd, 32, .rw, 0x0, 0x7FF07FF⟩,
    ⟨Adr.LCDCLS, .lcd, 32, .rw, 0x0, 0x7FF07FF⟩,
    ⟨Adr.LCDSPL, .lcd, 32, .rw, 0x0, 0x7FF07FF⟩,
    ⟨Adr.LCDREV, .lcd, 32, .rw, 0x0, 0x7FF07FF⟩,
    ⟨Adr.LCDCTRL, .lcd, 32, .rw, 0x0, 0x3FFF3FFF⟩,
    ⟨Adr.LCDSTATE, .lcd, 32, .rw, 0x0, 0xBF⟩,
    ⟨Adr.LCDIID, .lcd, 32, .r, 0x0, 0x0⟩,
    ⟨Adr.LCDDA0, .lcd, 32, .rw, 0x0, 0xFFFFFFFF⟩,
    ⟨Adr.LCDSA0, .lcd, 32, .r, 0x0, 0x0⟩,
    ⟨Adr.LCDFID0, .lcd, 32, .r, 0x0, 0x0⟩,
    ⟨Adr.LCDCMD0, .lcd, 32, .r, 0x0, 0x0⟩,
    ⟨Adr.LCDDA1, .lcd, 32, .rw, 0x0, 0xFFFFFFFF⟩,
    ⟨Adr.LCDSA1, .lcd, 32, .r, 0x0, 0x0⟩,
    ⟨Adr.LCDFID1, .lcd, 32, .r, 0x0, 0x0⟩,
    ⟨Adr.LCDCMD1, .lcd, 32, .r, 0x0, 0x0⟩ ]

/-- The registers of the page at 0x13060000. -/
def ioPage13060 : List IoReg :=
  [ ⟨Adr.CIMCFG, .cim, 32, .rw, 0x0, 0xF373⟩,
    ⟨Adr.CIMCR, .cim, 32, .rw, 0x0, 0xFF0F3F77⟩,
    ⟨Adr.CIMST, .cim, 32, .rw, 0x0, 0x79⟩,
    ⟨Adr.CIMIID, .cim, 32, .r, 0x0, 0x0⟩,
    ⟨Adr.CIMRXFIFO, .cim, 32, .r, 0x0, 0x0⟩,
    ⟨Adr.CIMDA, .cim, 32, .rw, 0x0, 0xFFFFFFFF⟩,
    ⟨Adr.CIMFA, .cim, 32, .r, 0x0, 0x0⟩,
    ⟨Adr.CIMFID, .cim, 32, .r, 0x0, 0x0⟩,
    ⟨Adr.CIMCMD, .cim, 32, .r, 0x0, 0x0⟩ ]

/-- The registers of the page at 0x13100000. -/
def ioPage13100 : List IoReg :=
  [ ⟨Adr.MAC_CR, .eth, 32, .rw, 0x40000, 0x98FFBDEC⟩,
    ⟨Adr.MAC_AHR, .eth, 32, .rw, 0xFFFF, 0xFFFF⟩,
    ⟨Adr.MAC_ALR, .eth, 32, .rw, 0xFFFFFFFF, 0xFFFFFFFF⟩,
    ⟨Adr.MAC_HTH, .eth, 32, .rw, 0x0, 0xFFFFFFFF⟩,
    ⟨Adr.MAC_HTL, .eth, 32, .rw, 0x0, 0xFFFFFFFF⟩,
    ⟨Adr.MAC_MIA, .eth, 32, .rw, 0x0, 0xFFC3⟩,
    ⟨Adr.MAC_MID, .eth, 32, .rw, 0x0, 0xFFFF⟩,
    ⟨Adr.MAC_FCR, .eth, 32, .rw, 0x0, 0xFFFF0007⟩,
    ⟨Adr.MAC_VTR1, .eth, 32, .rw, 0xFFFF, 0xFFFF⟩,
    ⟨Adr.MAC_VTR2, .eth, 32, .rw, 0xFFFF, 0xFFFF⟩,
    ⟨Adr.MAC_WKFR, .eth, 32, .w, 0x0, 0x0⟩,
    ⟨Adr.MAC_PMBR, .eth, 32, .rw, 0x0, 0x206⟩ ]

/-- The registers of the page at 0x13101000. -/
def ioPage13101 : List IoReg :=
  [ ⟨Adr.MAC_BMR, .eth, 32, .rw, 0x0, 0x103FFC⟩,
    ⟨Adr.MAC_TPDR, .eth, 32, .w, 0x0, 0x0⟩,
    ⟨Adr.MAC_RPDR, .eth, 32, .w, 0x0, 0x0⟩,
    ⟨Adr.MAC_RBAR, .eth, 32, .rw, 0x0, 0xFFFFFFFC⟩,
    ⟨Adr.MAC_TBAR, .eth, 32, .rw, 0x0, 0xFFFFFFFC⟩,
    ⟨Adr.MAC_SR, .eth, 32, .rw, 0x0, 0x1E7EF⟩,
    ⟨Adr.MAC_OMR, .eth, 32, .rw, 0x0, 0x60E006⟩,
    ⟨Adr.MAC_IER, .eth, 32, .rw, 0x0, 0x1E7EF⟩,
    ⟨Adr.MAC_MFC, .eth, 32, .r, 0x0, 0x0⟩,
    ⟨Adr.MAC_HTAR, .eth, 32, .r, 0x0, 0x0⟩,
    ⟨Adr.MAC_HRAR, .eth, 32, .r, 0x0, 0x0⟩ ]

/-- The registers whose address lies in page `pg` (address divided by 0x1000). -/
def ioPage (pg : Nat) : List IoReg :=
  if pg = 0x10000 then ioPage10000 else
  if pg = 0x10001 then ioPage10001 else
  if pg = 0x10002 then ioPage10002 else
  if pg = 0x10003 then ioPage10003 else
  if pg = 0x10004 then ioPage10004 else
  if pg = 0x10010 then ioPage10010 else
  if pg = 0x10020 then ioPage10020 else
  if pg = 0x10021 then ioPage10021 else
  if pg = 0x10030 then ioPage10030 else
  if pg = 0x10031 then ioPage10031 else
  if pg = 0x10032 then ioPage10032 else
  if pg = 0x10033 then ioPage10033 else
  if pg = 0x10041 then ioPage10041 else
  if pg = 0x10042 then ioPage10042 else
  if pg = 0x10043 then ioPage10043 else
  if pg = 0x10050 then ioPage10050 else
  if pg = 0x10051 then ioPage10051 else
  if pg = 0x10062 then ioPage10062 else
  if pg = 0x13000 then ioPage13000 else
  if pg = 0x13010 then ioPage13010 else
  if pg = 0x13020 then ioPage13020 else
  if pg = 0x13030 then ioPage13030 else
  if pg = 0x13040 then ioPage13040a ++ ioPage13040b else
  if pg = 0x13050 then ioPage13050 else
  if pg = 0x13060 then ioPage13060 else
  if pg = 0x13100 then ioPage13100 else
  if pg = 0x13101 then ioPage13101 else
  []

/-- The register with address `a` in a list of them. -/
def findReg (a : Nat) : List IoReg → Option IoReg
  | [] => none
  | r :: rs => if a = r.addr then some r else findReg a rs

/-- The register at physical address `a`, if there is one (R740). -/
def ioReg (a : Nat) : Option IoReg := findReg a (ioPage (a / 0x1000))

/-- SMCRn.BW as the BOOT_SEL pins load it (63_platform_memory.md R666). -/
def bootWidth (p : Params) : Word :=
  if p.bootSel.getLsbD 3 then (if p.bootSel.getLsbD 0 then 0x40 else 0)
  else if p.bootSel.extractLsb' 0 2 = 0 then 0x80 else if p.bootSel.extractLsb' 0 2 = 1 then 0x40 else 0

/-- The value an unwritten register holds: its reset value, pins sampled at reset included (R666, R670). Addresses
without a register hold 0. -/
def ioReset (p : Params) (a : Nat) : Word :=
  match ioReg a with
  | none => 0
  | some r =>
    if a = Adr.SMCR0 && !p.bootSel.getLsbD 3 then r.reset ||| bootWidth p
    else if a = Adr.SMCR3 && p.bootSel.getLsbD 3 then r.reset ||| bootWidth p
    else if a = Adr.NFCSR then
      r.reset ||| ((p.bootSel.extractLsb' 0 3).setWidth 32 <<< 4) ||| (if p.bootSel.getLsbD 3 then 1 else 0)
    else r.reset

end Sys2Proof.Machine
end

