-- ==== Sys2Proof/Machine/Sparse.lean ====
section
/-! DEFINITION. Sparse maps in one canonical form: keys strictly rising, no entry equal to what an unlisted key reads as.
Memory, the device registers and the caches are such maps. -/

namespace Sys2Proof.Machine

variable {β : Type}

/-- The value at key `k`; `d` gives what unlisted keys hold. -/
def Sparse.get (d : Nat → β) (k : Nat) : List (Nat × β) → β
  | [] => d k
  | (j, v) :: t => if k = j then v else Sparse.get d k t

/-- Put `v` at `k` in a map that does not list `k` before its place. -/
def Sparse.cons [DecidableEq β] (d : Nat → β) (k : Nat) (v : β) (t : List (Nat × β)) : List (Nat × β) :=
  if v = d k then t else (k, v) :: t

/-- Write `v` at key `k`; writing the default removes the entry. -/
def Sparse.set [DecidableEq β] (d : Nat → β) (k : Nat) (v : β) : List (Nat × β) → List (Nat × β)
  | [] => Sparse.cons d k v []
  | (j, u) :: t =>
    if k < j then Sparse.cons d k v ((j, u) :: t)
    else if k = j then Sparse.cons d k v t
    else (j, u) :: Sparse.set d k v t

/-- The canonical form. -/
def Sparse.wf [DecidableEq β] (d : Nat → β) : List (Nat × β) → Bool
  | [] => true
  | (k, v) :: t => decide (v ≠ d k) && t.all (fun e => decide (k < e.1)) && Sparse.wf d t

end Sys2Proof.Machine
end

