-- ==== Sys2Proof/Machine/State.lean ====
section
/-! DEFINITION. The state of the machine as plain data, its reset value, and the reasons a step can stop. -/

namespace Sys2Proof.Machine

/-! ### Reasons to stop -/

/-- Why the machine stops with a fault. Each is safe: the model stops where the spec gives no behaviour. -/
inductive Fault where
  /-- Raised by a bus access (core, cache refill or bus agent) to a physical address nothing answers
  (20_memory.md R125, D9). Safe. -/
  | unbacked
deriving DecidableEq, Repr

/-- Why the machine refuses to go on. Each is safe: the program is outside the specified behaviour. -/
inductive Refusal where
  /-- Raised by the arm of an instruction that has no meaning yet. Safe. -/
  | notModelled (mnemonic : String)
  /-- Raised by a branch, jump, ERET, DERET or WAIT in a delay slot (43_branch.md R313, U19). Safe. -/
  | delaySlotControl
  /-- Raised by a linking branch with rs = 31 and by JALR with rd = rs (R321, R333, U19). Safe. -/
  | linkRegister
  /-- Raised by TLBWI and TLBWR with a PageMask.Mask outside the seven legal values (10_state.md R33, U6). Safe. -/
  | reservedPageMask
  /-- Raised by a vectored interrupt with a reserved IntCtl.VS (10_state.md R40, U7). Safe. -/
  | reservedVectorSpacing
  /-- Raised by a cached access to a device register (20_memory.md R126, U11) or to the NAND command or address space
  (63_platform_memory.md R672). Safe. -/
  | cachedDevice
  /-- Raised by a bus access whose address two EMC banks decode (63_platform_memory.md R663, U32). Safe. -/
  | bankOverlap
  /-- Raised by a device register access of another size than the documented one (61_platform.md R530, D10). Safe. -/
  | deviceWidth
  /-- Raised by a bus write to a read-only part (63_platform_memory.md R668, D7). Safe. -/
  | romWrite
  /-- Raised by an access to a register of a module whose clock CDR stops (61_platform.md R543, U25). Safe. -/
  | clockStopped
  /-- Raised by a read of the NAND command or address space (63_platform_memory.md R672). Safe. -/
  | nandRead
  /-- Raised by WAIT with LCR.LPM = 3 (61_platform.md R545, U24). Safe. -/
  | reservedLpm
  /-- Raised when reserved or forbidden clock division codes take effect (61_platform.md R534, R539, U27). Safe. -/
  | clockRatio
  /-- Raised when an OST channel is enabled with CKC 6 or 7 (61_platform.md R563, U28). Safe. -/
  | reservedCkc
  /-- Raised when a DMA channel is enabled with a reserved request type or SP, DP, TSZ code (R693, R697, U35). Safe. -/
  | reservedDma
  /-- Raised when a detection of an on-chip request in single mode may move more than the trigger value of the device's FIFO, and
  a read finds that FIFO empty or a write finds it full (63_platform_memory.md R698, log entry 20). Safe. -/
  | dmaTrigger
  /-- Raised when the LCD is enabled with a reserved MODE or BPP (93_implementation_defined.md part 2). Safe. -/
  | reservedLcd
  /-- Raised when the Ethernet MAC is enabled with a reserved MAC_CR.OM or MAC_BMR.PBL (part 2). Safe. -/
  | reservedEth
  /-- Raised when the CIM loads a descriptor with LEN = 0 (part 2). Safe. -/
  | reservedCim
  /-- Raised when the AIC is enabled with a reserved BCKD/SYNCD pair or I2SCR.WL (part 2). Safe. -/
  | reservedAic
  /-- Raised when the MSC starts an operation with a reserved BUS_WIDTH, RESPONSE_FORMAT or CLOCK_CONTROL (part 2). Safe. -/
  | reservedMsc
  /-- Raised by the first fetch with BOOT_SEL[3] = 0 and BOOT_SEL[1:0] = 3 (61_platform.md R605, part 2). Safe. -/
  | reservedBootSel
deriving DecidableEq, Repr

/-! ### The core -/

/-- Coprocessor 0 (10_state.md sections 3 to 6), each register at its own name. The read-only registers PRId, Config1,
Config2, Config3 and the constant fields of Config are computed from the parameters. -/
structure Cp0 where
  /-- R29 -/
  index : Word
  /-- R30 -/
  random : Word
  /-- R31 -/
  entryLo0 : Word
  /-- R31 -/
  entryLo1 : Word
  /-- R32 -/
  context : Word
  /-- R33 -/
  pageMask : Word
  /-- R34 -/
  wired : Word
  /-- R36 -/
  badVAddr : Word
  /-- R38 -/
  entryHi : Word
  /-- R39 -/
  status : Word
  /-- R40 -/
  intCtl : Word
  /-- R42, without IP[7:2], which are input lines (R481) -/
  cause : Word
  /-- R44 -/
  epc : Word
  /-- R48 -/
  ebase : Word
  /-- Config.K0 (R49) -/
  k0 : BitVec 3
  /-- R53 -/
  config7 : Word
  /-- R54 -/
  llAddr : Word
  /-- R55 -/
  watchLo : Word
  /-- R56 -/
  watchHi : Word
  /-- R57 -/
  debug : Word
  /-- R58 -/
  depc : Word
  /-- R59 -/
  errCtl : Word
  /-- R60 -/
  tagLo : Word
  /-- R61 -/
  dataLo : Word
  /-- R62 -/
  errorEpc : Word
  /-- R63 -/
  desave : Word
deriving DecidableEq, Repr

/-- One joint-TLB entry (10_state.md R65). -/
structure TlbEntry where
  vpn2 : BitVec 19
  asid : BitVec 8
  g : Bool
  mask : BitVec 12
  pfn0 : BitVec 20
  c0 : BitVec 3
  d0 : Bool
  v0 : Bool
  pfn1 : BitVec 20
  c1 : BitVec 3
  d1 : Bool
  v1 : Bool
deriving DecidableEq, Repr

/-- One cache line (10_state.md R67, 20_memory.md R130). An instruction line is never dirty. -/
structure CacheLine where
  valid : Bool
  tag : BitVec 22
  dirty : Bool
  lock : Bool
  data : Vector Byte 32
deriving DecidableEq, Repr

/-- The drseg registers (62_ejtag.md R633): writable fields; the constant fields are added on reading. -/
structure Drseg where
  dcr : Word
  ibs : Word
  iba : Vector Word 2
  ibm : Vector Word 2
  ibasid : Vector Word 2
  ibc : Vector Word 2
  dbs : Word
  dba : Word
  dbm : Word
  dbasid : Word
  dbc : Word
  dbv : Word
deriving DecidableEq, Repr

/-- What the TAP instructions EJTAGBOOT, EJTAGBOOTA and NORMALBOOT ask of the next reset (62_ejtag.md R640, R646). -/
inductive BootRequest where
  | normal | ejtag | ejtagAcc
deriving DecidableEq, Repr

/-- The probe-side registers (62_ejtag.md section 3). `burst`, `answer` and `held` are the model's: the words the probe has
delivered of an 8-beat burst, the data of a dmseg access the probe has finished, and the instruction word fetched whose
execution still waits for another access (log entry 16). -/
structure Ejtag where
  /-- R641 -/
  am : Bool
  /-- the TAP instruction register, R640 -/
  tapIr : BitVec 5
  /-- R646 -/
  boot : BootRequest
  /-- R642: Rocc 31, Psz 30:29, PerRst 20, PRnW 19, PrAcc 18, PrRst 16, ProbEn 15, ProbTrap 14, EjtagBrk 12 -/
  ecr : Word
  /-- R642 -/
  address : Word
  /-- R642 -/
  data : Word
  /-- ECR_A, R643: PRW 1, PA 0 -/
  ecrA : BitVec 2
  /-- R644 -/
  addressA : BitVec 37
  /-- R645 -/
  dataA : BitVec 33
  /-- what the TAP has captured to shift out, bit 0 first (R640) -/
  scan : Nat
  burst : List Word
  answer : Option (List Word)
  held : Option Word
deriving DecidableEq, Repr

/-- 61_platform.md R541; DOZE is LCR.DOZE. -/
inductive PowerMode where
  | normal | idle | sleep | hibernate
deriving DecidableEq, Repr

/-- The three chip resets (61_platform.md R591). -/
inductive ResetCause where
  | powerOn | watchdog | hibernate
deriving DecidableEq, Repr

/-! ### Devices: what their registers do not hold -/

/-- An entry of a UART receive FIFO: data and the three status bits (64_peripherals.md R744). -/
structure RxEntry where
  c : Byte
  bi : Bool
  fmer : Bool
  parer : Bool
deriving DecidableEq, Repr

/-- One UART (64_peripherals.md R744). -/
structure Uart where
  rx : List RxEntry
  tx : List Byte
  tsr : Option Byte
  udllr : Byte
  udlhr : Byte
  uier : Byte
  ufcr : Byte
  ulcr : Byte
  umcr : Byte
  uspr : Byte
  isr : Byte
  overrun : Bool
  ccts : Bool
  rxTimeout : Bool
deriving DecidableEq, Repr

/-- GPIO pins as the host drives them, one bit per pin and group (63_platform_memory.md R710), and the output pins and
levels that HIBERNATE holds until HCR.HGP is cleared (61_platform.md R544, R548). -/
structure GpioPins where
  driven : Vector Word 4
  level : Vector Word 4
  held : Vector Word 4
  heldLevel : Vector Word 4
deriving DecidableEq, Repr

/-- A condition of the I2C bus. -/
inductive I2cCond where
  | start
  | stop
deriving DecidableEq, Repr

/-- I2C beyond its registers: the queued START and STOP, oldest first, the byte in the shifter, whether the next byte is the
address and whether the transfer reads, bus busy (64_peripherals.md R771, R772). -/
structure I2c where
  conds : List I2cCond
  shift : Option Byte
  addr : Bool
  reading : Bool
  busy : Bool
deriving DecidableEq, Repr

/-- SSI FIFOs, the BUSY and interval state, and the characters of the frame under way (64_peripherals.md R776, R780). -/
structure Ssi where
  tx : List (BitVec 17)
  rx : List (BitVec 17)
  busy : Bool
  interval : Bool
  gpc : Bool
  /-- Microwire format 2: the next write of SSIDR is a write command's data; the next character sent is (R777) -/
  wantData : Bool
  sendsData : Bool
  count : Nat
deriving DecidableEq, Repr

/-- SCC: the shared FIFO and the ETU counter (64_peripherals.md R790, R791). -/
structure Scc where
  fifo : List Byte
  etu : BitVec 20
deriving DecidableEq, Repr

/-- Whom the byte in the KBC's input buffer is for: the keyboard, the mouse (command 0xD4), or the controller itself, whose command
has it as its parameter (64_peripherals.md R798). -/
inductive KbcDest where
  | keyboard | mouse | controller
deriving DecidableEq, Repr

/-- KBC (64_peripherals.md R797, R798): output buffer, input buffer and whom it is for, status bits, command byte, and the command
whose parameter is awaited through KTDR. -/
structure Kbc where
  out : Byte
  input : Byte
  dest : KbcDest
  otf : Bool
  itf : Bool
  per : Bool
  tot : Bool
  mof : Bool
  ad2 : Bool
  cmdByte : Byte
  await : Option Byte
deriving DecidableEq, Repr

/-- A transmit FIFO of one UDC IN endpoint (65_peripherals_bus_masters.md R884): its words and whether TCFM has confirmed them; a
zero-length packet that has been asked for by TZERO, and one that TCFM has queued. -/
structure UdcTx where
  words : List Word
  confirmed : Bool
  zeroAsked : Bool
  zero : Bool
deriving DecidableEq, Repr

/-- UDC data path (R884). -/
structure Udc where
  rx : List Word
  tx : Vector UdcTx 5
  /-- TZERO has been written and the next TFIFO write asks for a zero-length packet -/
  tzero : Bool
  /-- a zero-length OUT packet waits for its confirmation by a read of TCFM -/
  zeroOut : Bool
deriving DecidableEq, Repr

/-- One LCD DMA channel (R895): the next descriptor word to fetch (0 to 3; 4 while data moves), the descriptor it started
from, the next word to read and how many are left. -/
structure LcdChannel where
  phase : Nat
  desc : Word
  cursor : Word
  left : Nat
  first : Bool
deriving DecidableEq, Repr

/-- LCD: the two channels, the palette RAM, oldest first (R890, R895), and whether the end of a quick disable (QD) or of a normal
one (LDD) is still to be reported (R894). -/
structure Lcd where
  ch : Vector LcdChannel 2
  palette : List (BitVec 16)
  quick : Bool
  normal : Bool
deriving DecidableEq, Repr

/-- CIM (R904, R905): RXFIFO, the descriptor being fetched and its next word (0 to 3), whether one is loaded, whether its
first word is still to move, whether the agent has stopped, whether the module is being disabled (R906). -/
structure Cim where
  rx : List Word
  phase : Nat
  desc : Word
  loaded : Bool
  first : Bool
  stopped : Bool
  closing : Bool
deriving DecidableEq, Repr

/-- Where an Ethernet DMA process stands (R926). -/
inductive EthPhase where
  /-- MAC_OMR start bit clear, or stopped by a bus error -/
  | stopped
  /-- waits for a poll demand -/
  | suspended
  /-- fetches word n of the descriptor -/
  | fetch (n : Nat)
  /-- moves buffer 1 -/
  | buffer1
  /-- moves buffer 2 -/
  | buffer2
  /-- writes the status back -/
  | close
  /-- receive: waits for a frame -/
  | waitFrame
  /-- gives back a descriptor whose buffers are empty or full, before the end of the frame -/
  | release
deriving DecidableEq, Repr

/-- One Ethernet DMA process: its descriptor, the four words of it, the bytes moved or still to move, the descriptors of
the frame that still wait for their status, the bytes done in the current buffer, an interrupt on completion, whether the first
buffer of the received frame is still to be filled (transmission: whether the frame is complete), status bits, the control word
of the frame's first descriptor, and whether the next descriptor given back is the frame's first (transmission: whether the end of
the frame is still to be reported). -/
structure EthDma where
  phase : EthPhase
  desc : Word
  des0 : Word
  des1 : Word
  des2 : Word
  des3 : Word
  frame : List Byte
  done : Nat
  used : List Word
  ioc : Bool
  first : Bool
  status : Word
  ctl : Word
  opening : Bool
deriving DecidableEq, Repr

/-- The Ethernet MAC beyond its registers (R922, R926): the two processes, the frame that has been handed to the wire and waits
for its end, the frames of the receive FIFO with their status, the bytes of the last frame sent, the wake-up filters. -/
structure Eth where
  tx : EthDma
  rx : EthDma
  sent : Option EthDma
  rxFifo : List (List Byte × Word)
  wire : List Byte
  wkfrCount : BitVec 3
  wkfr : Vector Word 8
deriving DecidableEq, Repr

/-- AIC FIFOs (66_peripherals_audio_card.md R937). -/
structure Aic where
  tx : List (BitVec 24)
  rx : List (BitVec 24)
deriving DecidableEq, Repr

/-- The data transfer an MSC operation has in progress (R945). -/
inductive MscTransfer where
  | none | read | write
deriving DecidableEq, Repr

/-- Whether the end of the transfer still needs CMD12 (R945): no; yes, of a stream transfer; or CMD12 is on its way. -/
inductive MscStop where
  | notNeeded | wanted | underWay
deriving DecidableEq, Repr

/-- MSC FIFOs and transfer state (R945 to R947). `lastRead`: the FIFO holds the last read data; `awaitDone`: an operation with
data is not done; `stop`: whether CMD12 must be sent before it can be; the other flags are the requests MSC_STRPCL made that the
host has not answered (R941). -/
structure Msc where
  fifo : List Word
  res : List (BitVec 16)
  transfer : MscTransfer
  lastRead : Bool
  awaitDone : Bool
  stop : MscStop
  stopClock : Bool
  readWait : Bool
  exitMultiple : Bool
  exitTransfer : Bool
deriving DecidableEq, Repr

/-- DMAC beyond its registers: per channel the units left before the next request detection, the level of DREQ1, for which the spec
names no pin, the latched edges of DREQ0 and DREQ1, the channel served last in each round-robin group, and the unit under way: its
channel, the bytes read so far, how many are written (R695, R696). -/
structure Dma where
  left : Vector Nat 6
  dreq1 : Bool
  dreqEdge : BitVec 2
  lastLow : Nat
  lastHigh : Nat
  cur : Option Nat
  buf : List Byte
  written : Nat
deriving DecidableEq, Repr

/-- Everything the devices hold beyond the registers of `State.io`. -/
structure Devices where
  uart : Vector Uart 4
  gpio : GpioPins
  i2c : I2c
  ssi : Ssi
  scc : Scc
  kbc : Kbc
  udc : Udc
  lcd : Lcd
  cim : Cim
  eth : Eth
  aic : Aic
  msc : Msc
  dma : Dma
  /-- the up counters of the two PWM channels (64_peripherals.md R766) -/
  pwm : Vector (BitVec 10) 2
  /-- a write of RTCSR that has not landed yet (61_platform.md R572) -/
  rtcWrite : Option Word
deriving DecidableEq, Repr

/-! ### Events -/

/-- What the probe does through the TAP (62_ejtag.md R631, R632, R640 to R646). -/
inductive ProbeOp where
  /-- CAPTURE_DR: the selected register is copied to be shifted out -/
  | capture
  /-- UPDATE_IR -/
  | ir (code : BitVec 5)
  /-- UPDATE_DR with CONTROL selected, MIPS mode -/
  | ecr (v : Word)
  /-- UPDATE_DR with DATA selected: PAD, and in ACC mode RDY -/
  | data (v : BitVec 33)
  /-- UPDATE_DR with ALL selected: ECR and DATA together -/
  | all (ecr : Word) (v : BitVec 33)
  /-- the TAP returns to Test-Logic-Reset -/
  | reset
deriving DecidableEq, Repr

/-- How a card answers a command (66_peripherals_audio_card.md R947). -/
inductive CardAnswer where
  | response (halfWords : List (BitVec 16))
  | timeout
  | crcError
deriving DecidableEq, Repr

/-- One move of an agent that is not the core, or the core's turn (log entry 9). -/
inductive Event where
  /-- the core takes one step -/
  | core
  /-- the oldest store leaves the write buffer (20_memory.md R141) -/
  | drain
  /-- PRESET goes low (61_platform.md R592) -/
  | powerOnReset
  /-- the NMI input (60_exceptions.md R500) -/
  | nmi
  /-- the DINT input (62_ejtag.md R626) -/
  | dint
  /-- the probe (62_ejtag.md R620) -/
  | probe (op : ProbeOp)
  /-- the PLL becomes stable (61_platform.md R536) -/
  | pllLock
  /-- one count clock of OST channel n (R564) -/
  | ostTick (n : BitVec 2)
  /-- OST channel n has synchronised (R565) -/
  | ostSync (n : BitVec 2)
  /-- the 1 Hz clock (R572) -/
  | rtcTick
  /-- a delayed RTCSR write lands (R572) -/
  | rtcLand
  /-- RTCCLK at the watchdog (R582) -/
  | wdtTick
  /-- the refresh clock (63_platform_memory.md R683) -/
  | refreshTick
  /-- the NAND ready/busy pin (R670) -/
  | nandReady (ready : Bool)
  /-- the host drives a pin (R710) -/
  | gpioDrive (g : BitVec 2) (n : BitVec 5) (level : Bool)
  /-- the host stops driving a pin (R714) -/
  | gpioRelease (g : BitVec 2) (n : BitVec 5)
  /-- one bus access of the DMAC, or a whole block (R696) -/
  | dmaUnit
  /-- DREQ pin of channel 0 or 1 (R693) -/
  | dreq (ch : BitVec 1) (level : Bool)
  /-- the requesting device halts a channel (R697) -/
  | dmaHalt (ch : BitVec 3)
  /-- TxStart (64_peripherals.md R757) -/
  | uartTxStart (u : BitVec 2)
  /-- TxDone (R757) -/
  | uartTxDone (u : BitVec 2)
  /-- RxChar (R757) -/
  | uartRxChar (u : BitVec 2) (e : RxEntry)
  /-- RxIdle (R757) -/
  | uartRxIdle (u : BitVec 2)
  /-- CtsChange (R757): the level of the CTS_ pin -/
  | uartCts (u : BitVec 2) (level : Bool)
  /-- one PWCLK_PWM tick (R766) -/
  | pwmTick (c : BitVec 1)
  /-- the queued START condition is sent (R772) -/
  | i2cStart
  /-- the controller copies I2CDR to its shifter (R772) -/
  | i2cTake
  /-- the byte in the shifter has been sent; the acknowledge level received (R772) -/
  | i2cSent (nack : Bool)
  /-- a byte has been received (R772) -/
  | i2cReceived (b : Byte)
  /-- the queued STOP condition is sent (R772) -/
  | i2cStop
  /-- the SSI transfers one character; the character shifted in (R777 to R781) -/
  | ssiTransfer (c : BitVec 17)
  /-- the SSI becomes idle, or enters an interval (R780) -/
  | ssiIdle (interval : Bool)
  /-- the SCC sends the head of its FIFO -/
  | sccSend
  /-- the SCC receives a character (R791) -/
  | sccReceive (c : Byte) (parityError : Bool)
  /-- hardware sets SCCSR bits (R791) -/
  | sccStatus (v : BitVec 16)
  /-- one ETU (R791) -/
  | sccEtu
  /-- a byte from the keyboard, with even parity when `per` (R797) -/
  | kbcReceive (c : Byte) (per : Bool) (mouse : Bool)
  /-- the receive timeout (R797) -/
  | kbcRxTimeout (mouse : Bool)
  /-- the byte of the input buffer has been sent (R797) -/
  | kbcSent
  /-- the transmit timeout (R797) -/
  | kbcTxTimeout
  /-- an IN token on endpoint e (65_peripherals_bus_masters.md R884) -/
  | udcIn (e : BitVec 3)
  /-- an OUT or SETUP packet (R884) -/
  | udcOut (e : BitVec 3) (setup : Bool) (pid : BitVec 4) (frame : BitVec 14) (bytes : List Byte)
  /-- SOF, suspend, reset (R881): the UDIPR bit -/
  | udcDevice (bit : BitVec 3) (frame : BitVec 14)
  /-- SetConfiguration answered by hardware (R884) -/
  | udcSetConfig (cfg : BitVec 4)
  /-- SetInterface answered by hardware (R884) -/
  | udcSetInterface (intf alt : BitVec 4)
  /-- one bus access of LCD channel c (R895) -/
  | lcdStep (c : BitVec 1)
  /-- the LCD raises LCDSTATE bits QD, OUF, IFU0, IFU1 or LDD (R894) -/
  | lcdStatus (v : BitVec 8)
  /-- one bus access of the CIM (R905) -/
  | cimStep
  /-- SensorWord (R905) -/
  | cimWord (w : Word)
  /-- the CIM is disabled (R906) -/
  | cimDisabled
  /-- one bus access of the transmit DMA (R926); what the wire reports, as bits of TDES0, when the frame ends -/
  | ethTxStep (status : Word)
  /-- one bus access of the receive DMA (R926) -/
  | ethRxStep
  /-- a frame arrives (R926): its bytes with the CRC, and the status bits of RDES0 that come from the wire (FR, CS, ME, DB,
  CE) -/
  | ethFrame (bytes : List Byte) (status : Word)
  /-- MiiDone (R919): what the PHY answers -/
  | ethMiiDone (data : BitVec 16)
  /-- the control frame has been sent (R920) -/
  | ethPauseDone
  /-- a timeout or underflow of the MAC: RWT, UNF, TJT (R913) -/
  | ethStatus (v : Word)
  /-- the receive FIFO overflows (R916) -/
  | ethOverflow
  /-- SampleOut (66_peripherals_audio_card.md R937) -/
  | aicOut
  /-- SampleIn (R937) -/
  | aicIn (v : BitVec 24)
  /-- the CODEC command has been sent (R936) -/
  | aicCommandDone
  /-- CODEC status arrives (R936) -/
  | aicStatus (sar sdr : BitVec 20)
  /-- no CODEC status within four frames (R935) -/
  | aicTimeout
  /-- CODEC ready and low power (R935) -/
  | aicCodec (ready lowPower : Bool)
  /-- I2SSR.BSY (R935) -/
  | aicBusy (b : Bool)
  /-- ACCR1.RS (R933) -/
  | aicSlots (rs : BitVec 10)
  /-- the MMC/SD clock has stopped (R947) -/
  | mscClockStopped
  /-- the MSC reset has finished (R947) -/
  | mscResetDone
  /-- CmdDone (R947) -/
  | mscCmdDone (a : CardAnswer)
  /-- DataWord (R947); `last` when it ends the read data (R945) -/
  | mscDataWord (w : Word) (last : Bool)
  /-- TakeWord (R947) -/
  | mscTakeWord
  /-- DataDone (R947); the error bits 4, 3:2 and 0 of MSC_STAT -/
  | mscDataDone (blocks : BitVec 16) (errors : BitVec 6)
  /-- PrgDone (R947) -/
  | mscPrgDone
  /-- SdioInt (R947) -/
  | mscSdioInt (level : Bool)
  /-- the card has entered ReadWait (R947) -/
  | mscReadWait
deriving DecidableEq, Repr

/-! ### The state -/

/-- The whole machine. `agenda` and `free` are the model's own (log entries 9 and 8), and so is `between`: for each coming bus
transfer of the core the events that happen just before it. -/
structure State where
  /-- R10; no step changes it -/
  params : Params
  /-- R20; slot 0 stays 0 (R21) -/
  gpr : Vector Word 32
  /-- R23 -/
  pc : Word
  /-- R310 -/
  pending : Option Word
  /-- R310 -/
  inDelaySlot : Bool
  /-- R24 -/
  hi : Word
  /-- R24 -/
  lo : Word
  /-- R25 -/
  llBit : Bool
  cp0 : Cp0
  /-- R65; entries 16 to 31 are absent when `params.tlb32` is false -/
  tlb : Vector TlbEntry 32
  /-- instruction cache lines by 4 * set + way; an unlisted line is `CacheLine.empty` -/
  icache : List (Nat × CacheLine)
  /-- data cache lines, likewise -/
  dcache : List (Nat × CacheLine)
  drseg : Drseg
  ejtag : Ejtag
  /-- R626 -/
  stepped : Bool
  /-- R72 -/
  waiting : Bool
  /-- 61_platform.md R541 -/
  powerMode : PowerMode
  /-- pending NMI request (R466) -/
  nmiReq : Bool
  /-- pending DINT input (R626) -/
  dintReq : Bool
  /-- pending reset (R820) -/
  resetReq : Option ResetCause
  /-- the write buffer, oldest store first: physical address and bytes, each store within one word (R68, R141) -/
  wbuf : List (Nat × List Byte)
  /-- memory cells; an unlisted byte reads 0 (log entry 4) -/
  mem : List Host.Cell
  /-- device registers by physical address; an unlisted one holds its reset value -/
  io : List (Nat × Word)
  dev : Devices
  /-- the output stream of UART0 (64_peripherals.md R759), newest first -/
  console : List Byte
  agenda : List Event
  between : List (List Event)
  free : Nat
deriving DecidableEq, Repr

/-! ### Reset -/

/-- What an unlisted cache line is: invalid and all 0 (log entry 3). -/
def CacheLine.empty : CacheLine :=
  { valid := false, tag := 0, dirty := false, lock := false, data := Vector.replicate 32 0 }

/-- TLB entry i after reset (log entry 2): a VPN2 of its own in an unmapped segment. -/
def TlbEntry.resetEntry (i : Nat) : TlbEntry :=
  { vpn2 := BitVec.ofNat 19 (0x40000 + i), asid := 0, g := false, mask := 0, pfn0 := 0, c0 := 0, d0 := false, v0 := false,
    pfn1 := 0, c1 := 0, d1 := false, v1 := false }

/-- R821, R824; fields without a stated reset value are 0 (log entry 1). -/
def Cp0.reset (p : Params) : Cp0 :=
  { index := 0, random := BitVec.ofNat 32 p.lastIndex, entryLo0 := 0, entryLo1 := 0, context := 0, pageMask := 0,
    wired := 0, badVAddr := 0, entryHi := 0, status := 0x00400004, intCtl := 0, cause := 0, epc := 0, ebase := 0, k0 := 2,
    config7 := 0, llAddr := 0, watchLo := 0, watchHi := 0, debug := 0, depc := 0, errCtl := 0, tagLo := 0, dataLo := 0,
    errorEpc := 0, desave := 0 }

/-- R633: IntE = NMIE = 1, every break enable 0; NMIE is storage (log entry 13). -/
def Drseg.reset : Drseg :=
  { dcr := 0x18, ibs := 0, iba := Vector.replicate 2 0, ibm := Vector.replicate 2 0, ibasid := Vector.replicate 2 0,
    ibc := Vector.replicate 2 0, dbs := 0, dba := 0, dbm := 0, dbasid := 0, dbc := 0, dbv := 0 }

/-- R620: no probe; the TAP selects IDCODE; ECR.Rocc says that a reset has occurred (R642, log entry 17). -/
def Ejtag.reset : Ejtag :=
  { am := false, tapIr := 1, boot := .normal, ecr := 0x80000000, address := 0, data := 0, ecrA := 0, addressA := 0, dataA := 0,
    scan := 0, burst := [], answer := none, held := none }

/-- R743: reset values; USPR is 0 (log entry 5). -/
def Uart.reset : Uart :=
  { rx := [], tx := [], tsr := none, udllr := 0, udlhr := 0, uier := 0, ufcr := 0, ulcr := 0, umcr := 0, uspr := 0,
    isr := 0, overrun := false, ccts := false, rxTimeout := false }

/-- A stopped Ethernet DMA process. -/
def EthDma.reset : EthDma :=
  { phase := .stopped, desc := 0, des0 := 0, des1 := 0, des2 := 0, des3 := 0, frame := [], done := 0, used := [],
    ioc := false, first := false, status := 0, ctl := 0, opening := true }

/-- The idle MAC. -/
def Eth.reset : Eth :=
  { tx := .reset, rx := .reset, sent := none, rxFifo := [], wire := [], wkfrCount := 0, wkfr := Vector.replicate 8 0 }

/-- An empty transmit FIFO, with no zero-length packet. -/
def UdcTx.empty : UdcTx := ⟨[], false, false, false⟩

/-- The MSC with empty FIFOs. -/
def Msc.reset : Msc :=
  { fifo := [], res := [], transfer := .none, lastRead := false, awaitDone := false, stop := .notNeeded, stopClock := false,
    readWait := false, exitMultiple := false, exitTransfer := false }

/-- R798: the command byte resets to 0x70. -/
def Kbc.reset : Kbc :=
  { out := 0, input := 0, dest := .keyboard, otf := false, itf := false, per := false, tot := false, mof := false, ad2 := false,
    cmdByte := 0x70, await := none }

/-- Every device with empty FIFOs and idle; no pin is driven, and the DREQ pins are low until the host drives them (log entry
43). -/
def Devices.reset : Devices :=
  { uart := Vector.replicate 4 .reset,
    gpio := ⟨Vector.replicate 4 0, Vector.replicate 4 0, Vector.replicate 4 0, Vector.replicate 4 0⟩,
    i2c := ⟨[], none, false, false, false⟩, ssi := ⟨[], [], false, false, false, false, false, 0⟩, scc := ⟨[], 0⟩,
    kbc := .reset,
    udc := ⟨[], Vector.replicate 5 .empty, false, false⟩,
    lcd := ⟨Vector.replicate 2 ⟨0, 0, 0, 0, true⟩, [], false, false⟩, cim := ⟨[], 0, 0, false, true, false, false⟩,
    eth := .reset, aic := ⟨[], []⟩,
    msc := .reset, dma := ⟨Vector.replicate 6 0, false, 0, 3, 1, none, [], 0⟩, pwm := Vector.replicate 2 0,
    rtcWrite := none }

/-- The machine right after a power-on reset with parameters `p` (70_reset_and_hazards.md R821 to R824, 61_platform.md
R592). -/
def State.resetWith (p : Params) : State :=
  { params := p, gpr := Vector.replicate 32 0, pc := 0xBFC00000, pending := none, inDelaySlot := false, hi := 0, lo := 0,
    llBit := false, cp0 := .reset p, tlb := Vector.ofFn fun i => TlbEntry.resetEntry i.val, icache := [], dcache := [],
    drseg := .reset, ejtag := .reset, stepped := false, waiting := false, powerMode := .normal, nmiReq := false,
    dintReq := false, resetReq := none, wbuf := [], mem := [], io := [], dev := .reset, console := [], agenda := [],
    between := [], free := 0 }

/-- The machine right after reset, with the default parameters of 00_scope.md R10. -/
def State.reset : State := State.resetWith Params.default

end Sys2Proof.Machine
end

