-- ==== Sys2Proof/Machine/Ops.lean ====
section
/-! DEFINITION. The named operations over the state: general registers, the program counter and delay slot, free values,
memory cells, device registers, status bits and modes, taking an exception, and the returns from one. -/

namespace Sys2Proof.Machine

/-- The outcome of one step. -/
abbrev Out := Host.Outcome State Fault Refusal

/-! ### General registers, pc, free values -/

/-- R20, R21: register 0 reads as 0. -/
def State.reg (s : State) (r : Reg) : Word := if r = 0#5 then 0 else s.gpr[r.toNat]'r.isLt

/-- R21: a write to register 0 is discarded. -/
def State.setReg (s : State) (r : Reg) (v : Word) : State :=
  if r = 0#5 then s else { s with gpr := s.gpr.set r.toNat v r.isLt }

/-- The next free value (93_implementation_defined.md, "any value"). -/
def State.draw (s : State) : Word := Config.freeWord s.free

/-- The counter of free values after `n` draws. -/
def State.drawn (s : State) (n : Nat) : State := { s with free := s.free + n }

/-- R310: advance past an instruction that is no branch: to the branch target after a taken branch's delay slot, else to
`pc + 4`. -/
def State.retire (s : State) : State :=
  { s with pc := s.pending.getD (s.pc + 4), pending := none, inDelaySlot := false }

/-- An instruction completes: advance. -/
def done (s : State) : Out := .next s.retire

/-- R310: a taken branch or a jump; the delay slot runs next. -/
def State.branchTo (s : State) (target : Word) : State :=
  { s with pc := s.pc + 4, pending := some target, inDelaySlot := true }

/-- R310: a branch that is not taken; the next instruction still stands in a delay slot. -/
def State.fallThrough (s : State) : State := { s with pc := s.pc + 4, pending := none, inDelaySlot := true }

/-- R311: a branch-likely that is not taken skips its delay slot. -/
def State.nullify (s : State) : State := { s with pc := s.pc + 8, pending := none, inDelaySlot := false }

/-- `pc <- target`: an immediate transfer (R12). -/
def State.jumpNow (s : State) (target : Word) : State := { s with pc := target, pending := none, inDelaySlot := false }

/-- R313, U19: an instruction that may not stand in a delay slot. -/
def outsideSlot (s : State) (k : Out) : Out := if s.inDelaySlot then .refused .delaySlotControl else k

/-! ### Memory cells and device registers -/

/-- What an unlisted memory byte reads as (log entry 4). -/
def memDefault (_ : Nat) : Byte := 0

/-- One memory cell. -/
def State.memByte (s : State) (k : Nat) : Byte := Sparse.get memDefault k s.mem

/-- Write one memory cell. -/
def State.setMemByte (s : State) (k : Nat) (b : Byte) : State := { s with mem := Sparse.set memDefault k b s.mem }

/-- The cells `k` to `k + n - 1`. -/
def State.memBytes (s : State) (k : Nat) : Nat → List Byte
  | 0 => []
  | n + 1 => s.memByte k :: s.memBytes (k + 1) n

/-- Write consecutive cells from `k` on. -/
def State.setMemBytes (s : State) (k : Nat) : List Byte → State
  | [] => s
  | b :: bs => (s.setMemByte k b).setMemBytes (k + 1) bs

/-- Memory is in canonical form. -/
def Memory.wf (m : List Host.Cell) : Bool := Sparse.wf memDefault m

/-- The stored value of the device register at `a`. -/
def State.ioGet (s : State) (a : Nat) : Word := Sparse.get (ioReset s.params) a s.io

/-- Store a device register. -/
def State.ioSet (s : State) (a : Nat) (v : Word) : State := { s with io := Sparse.set (ioReset s.params) a v s.io }

/-- Registers take their reset values. -/
def ioResetAll (s : State) : List Nat → State
  | [] => s
  | a :: as => ioResetAll (s.ioSet a (ioReset s.params a)) as

/-- Set and clear bits of a device register. -/
def State.ioMod (s : State) (a : Nat) (set clear : Word) : State := s.ioSet a ((s.ioGet a &&& ~~~clear) ||| set)

/-! ### Status bits and modes -/

/-- Status.IE -/
def State.ie (s : State) : Bool := bit s.cp0.status 0
/-- Status.EXL -/
def State.exl (s : State) : Bool := bit s.cp0.status 1
/-- Status.ERL -/
def State.erl (s : State) : Bool := bit s.cp0.status 2
/-- Status.UM -/
def State.um (s : State) : Bool := bit s.cp0.status 4
/-- Status.BEV -/
def State.bev (s : State) : Bool := bit s.cp0.status 22
/-- Status.RE -/
def State.re (s : State) : Bool := bit s.cp0.status 25
/-- Status.CU0 -/
def State.cu0 (s : State) : Bool := bit s.cp0.status 28
/-- Debug.DM: debug mode (R462, R621). -/
def State.dm (s : State) : Bool := bit s.cp0.debug 30

/-- R462: user mode. -/
def State.userMode (s : State) : Bool := !s.dm && s.um && !s.exl && !s.erl

/-- R451: CP0 and CACHE are usable. -/
def State.cp0Usable (s : State) : Bool := !s.userMode || s.cu0

/-- EntryHi.ASID, the current address space. -/
def State.asid (s : State) : BitVec 8 := s.cp0.entryHi.setWidth 8

/-- R102: reverse-endian data accesses. -/
def State.reverseEndian (s : State) : Bool := s.re && s.userMode

/-- R102: BigEndianCPU. -/
def State.bigEndianCPU (s : State) : Bool := s.params.bigEndian != s.reverseEndian

/-- Replace CP0. -/
def State.withCp0 (s : State) (c : Cp0) : State := { s with cp0 := c }

/-! ### Exceptions (60_exceptions.md) -/

/-- An ordinary exception with its recorded value (R461). `int` carries the vector offset that R475 gives. -/
inductive Exc where
  | int (off : Word)
  | mod (va : Word)
  | tlbl (va : Word) (refill : Bool)
  | tlbs (va : Word) (refill : Bool)
  | adel (va : Word)
  | ades (va : Word)
  | sys
  | bp
  | ri
  | cpu (n : BitVec 2)
  | ov
  | tr
  | watch
  | mcheck
deriving DecidableEq, Repr

/-- R43, R461: Cause.ExcCode. -/
def Exc.code : Exc → Word
  | .int _ => 0
  | .mod _ => 1
  | .tlbl _ _ => 2
  | .tlbs _ _ => 3
  | .adel _ => 4
  | .ades _ => 5
  | .sys => 8
  | .bp => 9
  | .ri => 10
  | .cpu _ => 11
  | .ov => 12
  | .tr => 13
  | .watch => 23
  | .mcheck => 24

/-- R470: Cause.CE, 0 unless Coprocessor Unusable. -/
def Exc.ce : Exc → Word
  | .cpu n => n.setWidth 32
  | _ => 0

/-- R470: the vector offset of an exception taken with EXL = 0. -/
def Exc.offset : Exc → Word
  | .tlbl _ true => 0x000
  | .tlbs _ true => 0x000
  | .int off => off
  | _ => 0x180

/-- R472: the failing address, for the exceptions that record one. -/
def Exc.badAddr : Exc → Option Word
  | .mod va => some va
  | .tlbl va _ => some va
  | .tlbs va _ => some va
  | .adel va => some va
  | .ades va => some va
  | _ => none

/-- R472: Context and EntryHi are written too. -/
def Exc.isTlb : Exc → Bool
  | .mod _ => true
  | .tlbl _ _ => true
  | .tlbs _ _ => true
  | _ => false

/-- R472: BadVAddr, Context.BadVPN2 and EntryHi.VPN2. -/
def Cp0.recordAddr (c : Cp0) (e : Exc) : Cp0 :=
  match e.badAddr with
  | none => c
  | some va =>
    if e.isTlb then
      { c with badVAddr := va, context := putField c.context 4 19 (va >>> 13), entryHi := putField c.entryHi 13 19 (va >>> 13) }
    else { c with badVAddr := va }

/-- R470, R474: the base of the exception vectors. -/
def State.vectorBase (s : State) : Word :=
  if s.bev then 0xBFC00200 else 0x80000000 ||| (s.cp0.ebase &&& 0x3FFFF000)

/-- The address of the instruction to restart at: the branch when in a delay slot (R314). -/
def State.restartPc (s : State) : Word := if s.inDelaySlot then s.pc - 4 else s.pc

/-- R470: Cause, EPC and the offset. -/
def exceptionCp0 (e : Exc) (s : State) : Cp0 :=
  let cause := putField (putField s.cp0.cause 2 5 e.code) 28 2 e.ce
  let c := s.cp0.recordAddr e
  let c := if s.exl then { c with cause := cause }
    else { c with cause := setBit cause 31 s.inDelaySlot, epc := s.restartPc }
  { c with status := setBit c.status 1 true }

/-- R470: entry of an ordinary exception outside debug mode. -/
def exceptionEntry (e : Exc) (s : State) : State :=
  ((s.withCp0 (exceptionCp0 e s)).jumpNow (s.vectorBase + (if s.exl then 0x180 else e.offset)))

/-- R625: the debug exception vector. -/
def State.debugVector (s : State) : Word := if bit s.ejtag.ecr 14 then 0xFF200200 else 0xBFC00480

/-- R627: an exception condition met in debug mode re-enters the debug handler. -/
def debugReenter (code : Word) (s : State) : State :=
  (s.withCp0 { s.cp0 with debug := putField s.cp0.debug 10 5 code }).jumpNow s.debugVector

/-- Taking an ordinary exception: the entry of R470, or in debug mode that of R627. -/
def takeException (e : Exc) (s : State) : State :=
  if s.dm then debugReenter e.code s else exceptionEntry e s

/-- `raise X` (R12). -/
def raise (e : Exc) (s : State) : Out := .next (takeException e s)

/-- The cause bit of a debug exception (R622). -/
inductive DebugCause where
  | dss | dbp | ddbl | ddbs | dib | dint
deriving DecidableEq, Repr

/-- R57, R622: the position of the cause bit. -/
def DebugCause.bitNo : DebugCause → Nat
  | .dss => 0
  | .dbp => 1
  | .ddbl => 2
  | .ddbs => 3
  | .dib => 4
  | .dint => 5

/-- R625: debug exception entry from non-debug mode. -/
def debugEntry (cause : DebugCause) (s : State) : State :=
  let d := s.cp0.debug &&& ~~~(0x8C00003F#32)
  let d := d ||| flag s.inDelaySlot 31 ||| one 30 ||| flag s.waiting 27 ||| one cause.bitNo
  ({ s with cp0 := { s.cp0 with depc := s.restartPc, debug := d }, waiting := false }).jumpNow s.debugVector

/-- R500: NMI. -/
def nmiEntry (s : State) : State :=
  let st := (s.cp0.status &&& ~~~(0x00380000#32)) ||| 0x00480004
  ({ s with cp0 := { s.cp0 with errorEpc := s.restartPc, status := st }, waiting := false, nmiReq := false }).jumpNow 0xBFC00000

/-- R420: the state after ERET. -/
def returnFromException (s : State) : State :=
  if s.erl then
    ({ s with cp0 := { s.cp0 with status := setBit s.cp0.status 2 false }, llBit := false }).jumpNow s.cp0.errorEpc
  else ({ s with cp0 := { s.cp0 with status := setBit s.cp0.status 1 false }, llBit := false }).jumpNow s.cp0.epc

/-- R421, R628: the state after DERET in debug mode. -/
def returnFromDebug (s : State) : State :=
  ({ s with cp0 := { s.cp0 with debug := s.cp0.debug &&& ~~~(0x40100000#32) }, stepped := false }).jumpNow s.cp0.depc

/-! ### Results of accesses -/

/-- What an access or a shared operation answers: a value and the state after it; an exception, a debug exception or a
wait for the probe, with the state in which it is taken; or a stop. -/
inductive Res (α : Type) where
  | ok (a : α) (s : State)
  | exc (e : Exc) (s : State)
  | dbg (c : DebugCause) (s : State)
  | stall (s : State)
  | fault (f : Fault)
  | refused (r : Refusal)

variable {α β : Type}

/-- Go on with the value, or pass the rest through. -/
def Res.bind (r : Res α) (k : α → State → Res β) : Res β :=
  match r with
  | .ok a s => k a s
  | .exc e s => .exc e s
  | .dbg c s => .dbg c s
  | .stall s => .stall s
  | .fault f => .fault f
  | .refused q => .refused q

/-- The outcome of an instruction built on an access. -/
def Res.out (r : Res α) (k : α → State → Out) : Out :=
  match r with
  | .ok a s => k a s
  | .exc e s => raise e s
  | .dbg c s => .next (debugEntry c s)
  | .stall s => .next s
  | .fault f => .fault f
  | .refused q => .refused q

/-- The outcome of an operation whose value is not needed. -/
def Res.toOut (r : Res Unit) : Out := r.out fun _ s => .next s

end Sys2Proof.Machine
end

