-- ==== Sys2Proof/Machine/Flags.lean ====
section
/-! DEFINITION. The tests instructions make on their operands. The core has no flag register (10_state.md R26): a test
becomes an overflow exception, a 0 or 1 in a register, a trap or a branch. -/

namespace Sys2Proof.Machine

/-- R201, R203, R205: the 33-bit sum of sign-extended operands. -/
def sum33 (a b : Word) : BitVec 33 := a.signExtend 33 + b.signExtend 33

/-- R203: the 33-bit difference of sign-extended operands. -/
def diff33 (a b : Word) : BitVec 33 := a.signExtend 33 - b.signExtend 33

/-- R201: signed overflow, `t[32] /= t[31]`. -/
def overflow33 (t : BitVec 33) : Bool := t.getLsbD 32 != t.getLsbD 31

/-- 1 or 0 (R220 to R223). -/
def boolWord (b : Bool) : Word := if b then 1 else 0

/-- `signed(a) < signed(b)` -/
def ltSigned (a b : Word) : Bool := decide (a.toInt < b.toInt)

/-- `unsigned(a) < unsigned(b)` -/
def ltUnsigned (a b : Word) : Bool := decide (a.toNat < b.toNat)

/-- `signed(a) < 0` (R319). -/
def negative (a : Word) : Bool := decide (a.toInt < 0)

/-- `signed(a) <= 0` (R317). -/
def notPositive (a : Word) : Bool := decide (a.toInt ≤ 0)

/-- R238: zero bits of `w` above its highest one among bits `n - 1` to 0. -/
def leadingZeros (w : Word) : Nat → Nat
  | 0 => 0
  | n + 1 => if bit w n then 0 else 1 + leadingZeros w n

/-- R238 -/
def countLeadingZeros (w : Word) : Word := BitVec.ofNat 32 (leadingZeros w 32)

/-- R239 -/
def countLeadingOnes (w : Word) : Word := countLeadingZeros (~~~w)

end Sys2Proof.Machine
end

