-- ==== Sys2Proof/Machine/Operands.lean ====
section
/-! DEFINITION. Operand forms and the shapes instructions share: effective addresses, branch targets, register results,
branches, traps, privileged instructions. -/

namespace Sys2Proof.Machine

/-! ### Addresses -/

/-- R350(a): the effective address. -/
def effAddr (base : Reg) (off : Imm16) (s : State) : Word := s.reg base + sext16 off

/-- R312: the target of a conditional branch at `pc`. -/
def branchTarget (pc : Word) (off : Imm16) : Word := pc + 4 + (sext16 off <<< 2)

/-- R330: the target of J and JAL at `pc`. -/
def jumpTarget (pc : Word) (index : BitVec 26) : Word := (pc + 4).extractLsb' 28 4 ++ index ++ 0#2

/-- The return address of a linking branch or jump (R321, R331). -/
def linkAddr (pc : Word) : Word := pc + 8

/-! ### Results -/

/-- Write a register and advance. -/
def writeResult (rd : Reg) (v : Word) (s : State) : Out := done (s.setReg rd v)

/-- R201: write the low 32 bits of a 33-bit result, or raise Ov. -/
def writeChecked (rd : Reg) (t : BitVec 33) (s : State) : Out :=
  if overflow33 t then raise .ov s else writeResult rd (t.setWidth 32) s

/-- Write HI and LO from a 64-bit value (R281). -/
def State.setHiLo (s : State) (p : BitVec 64) : State := { s with hi := p.extractLsb' 32 32, lo := p.extractLsb' 0 32 }

/-- HI || LO (R291). -/
def State.acc (s : State) : BitVec 64 := s.hi ++ s.lo

/-- Write HI and LO and advance. -/
def writeHiLo (p : BitVec 64) (s : State) : Out := done (s.setHiLo p)

/-- HI and LO become free values (U17, U18). -/
def State.freeHiLo (s : State) : State := { s.drawn 2 with hi := s.draw, lo := (s.drawn 1).draw }

/-! ### Branches (43_branch.md) -/

/-- A conditional branch. -/
def branch (taken : Bool) (off : Imm16) (s : State) : Out :=
  outsideSlot s (.next (if taken then s.branchTo (branchTarget s.pc off) else s.fallThrough))

/-- A branch-likely (R311). -/
def branchLikely (taken : Bool) (off : Imm16) (s : State) : Out :=
  outsideSlot s (.next (if taken then s.branchTo (branchTarget s.pc off) else s.nullify))

/-- The link write of a branch (R321): GPR[31]. -/
def State.link (s : State) : State := s.setReg 31#5 (linkAddr s.pc)

/-- R321, U19: rs = 31 is refused. -/
def linking (rs : Reg) (k : Out) : Out := if rs = 31#5 then .refused .linkRegister else k

/-- A jump (R330 to R333). -/
def jump (target : Word) (s : State) : Out := outsideSlot s (.next (s.branchTo target))

/-! ### Traps and privilege -/

/-- R400. -/
def trapIf (c : Bool) (s : State) : Out := if c then raise .tr s else done s

/-- R451: coprocessor 0 usability. -/
def privileged (s : State) (k : Out) : Out := if s.cp0Usable then k else raise (.cpu 0) s

end Sys2Proof.Machine
end

