-- ==== Sys2Proof/Machine/Arith.lean ====
section
/-! DEFINITION. Arithmetic, logic, comparison, conditional moves, counts, byte and bit-field instructions (40_alu.md). -/

namespace Sys2Proof.Machine

/-- ADD (R201). -/
def execAdd (rd rs rt : Reg) (s : State) : Out := writeChecked rd (sum33 (s.reg rs) (s.reg rt)) s

/-- ADDI (R205). -/
def execAddi (rt rs : Reg) (imm : Imm16) (s : State) : Out := writeChecked rt (sum33 (s.reg rs) (sext16 imm)) s

/-- ADDU (R202). -/
def execAddu (rd rs rt : Reg) (s : State) : Out := writeResult rd (s.reg rs + s.reg rt) s

/-- ADDIU (R206). -/
def execAddiu (rt rs : Reg) (imm : Imm16) (s : State) : Out := writeResult rt (s.reg rs + sext16 imm) s

/-- SUB (R203). -/
def execSub (rd rs rt : Reg) (s : State) : Out := writeChecked rd (diff33 (s.reg rs) (s.reg rt)) s

/-- SUBU (R204). -/
def execSubu (rd rs rt : Reg) (s : State) : Out := writeResult rd (s.reg rs - s.reg rt) s

/-- SLTI (R222). -/
def execSlti (rt rs : Reg) (imm : Imm16) (s : State) : Out := writeResult rt (boolWord (ltSigned (s.reg rs) (sext16 imm))) s

/-- SLTIU (R223). -/
def execSltiu (rt rs : Reg) (imm : Imm16) (s : State) : Out :=
  writeResult rt (boolWord (ltUnsigned (s.reg rs) (sext16 imm))) s

/-- AND (R210). -/
def execAnd (rd rs rt : Reg) (s : State) : Out := writeResult rd (s.reg rs &&& s.reg rt) s

/-- ANDI (R214). -/
def execAndi (rt rs : Reg) (imm : Imm16) (s : State) : Out := writeResult rt (s.reg rs &&& zext16 imm) s

/-- OR (R211). -/
def execOr (rd rs rt : Reg) (s : State) : Out := writeResult rd (s.reg rs ||| s.reg rt) s

/-- ORI (R215). -/
def execOri (rt rs : Reg) (imm : Imm16) (s : State) : Out := writeResult rt (s.reg rs ||| zext16 imm) s

/-- XOR (R212). -/
def execXor (rd rs rt : Reg) (s : State) : Out := writeResult rd (s.reg rs ^^^ s.reg rt) s

/-- XORI (R216). -/
def execXori (rt rs : Reg) (imm : Imm16) (s : State) : Out := writeResult rt (s.reg rs ^^^ zext16 imm) s

/-- NOR (R213). -/
def execNor (rd rs rt : Reg) (s : State) : Out := writeResult rd (~~~(s.reg rs ||| s.reg rt)) s

/-- LUI (R217). -/
def execLui (rt : Reg) (imm : Imm16) (s : State) : Out := writeResult rt (imm ++ 0#16) s

/-- SLT (R220). -/
def execSlt (rd rs rt : Reg) (s : State) : Out := writeResult rd (boolWord (ltSigned (s.reg rs) (s.reg rt))) s

/-- SLTU (R221). -/
def execSltu (rd rs rt : Reg) (s : State) : Out := writeResult rd (boolWord (ltUnsigned (s.reg rs) (s.reg rt))) s

/-- MOVZ (R230). -/
def execMovz (rd rs rt : Reg) (s : State) : Out := if s.reg rt = 0 then writeResult rd (s.reg rs) s else done s

/-- MOVN (R231). -/
def execMovn (rd rs rt : Reg) (s : State) : Out := if s.reg rt ≠ 0 then writeResult rd (s.reg rs) s else done s

/-- CLZ (R238); the rt field is ignored. -/
def execClz (rd rs _rt : Reg) (s : State) : Out := writeResult rd (countLeadingZeros (s.reg rs)) s

/-- CLO (R239); the rt field is ignored. -/
def execClo (rd rs _rt : Reg) (s : State) : Out := writeResult rd (countLeadingOnes (s.reg rs)) s

/-- SEB (R240). -/
def execSeb (rd rt : Reg) (s : State) : Out := writeResult rd (((s.reg rt).extractLsb' 0 8).signExtend 32) s

/-- SEH (R241). -/
def execSeh (rd rt : Reg) (s : State) : Out := writeResult rd (((s.reg rt).extractLsb' 0 16).signExtend 32) s

/-- WSBH (R242). -/
def execWsbh (rd rt : Reg) (s : State) : Out :=
  let v := s.reg rt
  writeResult rd (v.extractLsb' 16 8 ++ v.extractLsb' 24 8 ++ v.extractLsb' 0 8 ++ v.extractLsb' 8 8) s

/-- EXT (R244, U16). -/
def execExt (rt rs : Reg) (msbd lsb : BitVec 5) (s : State) : Out :=
  if lsb.toNat + msbd.toNat > 31 then writeResult rt s.draw (s.drawn 1)
  else writeResult rt ((s.reg rs >>> lsb.toNat) &&& fieldMask 0 (msbd.toNat + 1)) s

/-- INS (R245, U16). -/
def execIns (rt rs : Reg) (msb lsb : BitVec 5) (s : State) : Out :=
  if lsb.toNat > msb.toNat then writeResult rt s.draw (s.drawn 1)
  else writeResult rt (putField (s.reg rt) lsb.toNat (msb.toNat - lsb.toNat + 1) (s.reg rs)) s

end Sys2Proof.Machine
end

