-- ==== Sys2Proof/Machine/Branch.lean ====
section
/-! DEFINITION. Branches and jumps (43_branch.md). -/

namespace Sys2Proof.Machine

/-- J (R330). -/
def execJ (index : BitVec 26) (s : State) : Out := jump (jumpTarget s.pc index) s

/-- JAL (R331). -/
def execJal (index : BitVec 26) (s : State) : Out := jump (jumpTarget s.pc index) s.link

/-- JR and JR.HB (R332, R334). -/
def execJr (rs : Reg) (_hint : BitVec 5) (s : State) : Out := jump (s.reg rs) s

/-- JALR and JALR.HB (R333, R334); rd = rs is refused (U19). -/
def execJalr (rd rs : Reg) (_hint : BitVec 5) (s : State) : Out :=
  outsideSlot s
    (if rd = rs then .refused .linkRegister else jump (s.reg rs) (s.setReg rd (linkAddr s.pc)))

/-- BEQ (R315). -/
def execBeq (rs rt : Reg) (off : Imm16) (s : State) : Out := branch (s.reg rs == s.reg rt) off s

/-- BNE (R316). -/
def execBne (rs rt : Reg) (off : Imm16) (s : State) : Out := branch (s.reg rs != s.reg rt) off s

/-- BLEZ (R317). -/
def execBlez (rs : Reg) (off : Imm16) (s : State) : Out := branch (notPositive (s.reg rs)) off s

/-- BGTZ (R318). -/
def execBgtz (rs : Reg) (off : Imm16) (s : State) : Out := branch (!notPositive (s.reg rs)) off s

/-- BEQL (R323). -/
def execBeql (rs rt : Reg) (off : Imm16) (s : State) : Out := branchLikely (s.reg rs == s.reg rt) off s

/-- BNEL (R324). -/
def execBnel (rs rt : Reg) (off : Imm16) (s : State) : Out := branchLikely (s.reg rs != s.reg rt) off s

/-- BLEZL (R325). -/
def execBlezl (rs : Reg) (off : Imm16) (s : State) : Out := branchLikely (notPositive (s.reg rs)) off s

/-- BGTZL (R326). -/
def execBgtzl (rs : Reg) (off : Imm16) (s : State) : Out := branchLikely (!notPositive (s.reg rs)) off s

/-- BLTZ (R319). -/
def execBltz (rs : Reg) (off : Imm16) (s : State) : Out := branch (negative (s.reg rs)) off s

/-- BGEZ (R320). -/
def execBgez (rs : Reg) (off : Imm16) (s : State) : Out := branch (!negative (s.reg rs)) off s

/-- BLTZL (R327). -/
def execBltzl (rs : Reg) (off : Imm16) (s : State) : Out := branchLikely (negative (s.reg rs)) off s

/-- BGEZL (R328). -/
def execBgezl (rs : Reg) (off : Imm16) (s : State) : Out := branchLikely (!negative (s.reg rs)) off s

/-- BLTZAL (R321). -/
def execBltzal (rs : Reg) (off : Imm16) (s : State) : Out :=
  outsideSlot s (linking rs (branch (negative (s.reg rs)) off s.link))

/-- BGEZAL (R322). -/
def execBgezal (rs : Reg) (off : Imm16) (s : State) : Out :=
  outsideSlot s (linking rs (branch (!negative (s.reg rs)) off s.link))

/-- BLTZALL (R329). -/
def execBltzall (rs : Reg) (off : Imm16) (s : State) : Out :=
  outsideSlot s (linking rs (branchLikely (negative (s.reg rs)) off s.link))

/-- BGEZALL (R335). -/
def execBgezall (rs : Reg) (off : Imm16) (s : State) : Out :=
  outsideSlot s (linking rs (branchLikely (!negative (s.reg rs)) off s.link))

end Sys2Proof.Machine
end

