-- ==== Sys2Proof/Syntax.lean ====
section
/-! DEFINITION. The instruction set: one constructor per row of spec/opcode_table.json (30_encoding.md R160 to R177).
Register operands stand in the assembler order of R164. -/

namespace Sys2Proof

/-- One decoded instruction. Every field of the encoding that R171 leaves free is an operand here, so that no bit
of a word is dropped: code and hint fields included (R176). -/
inductive Instr where
  /-- ADD (R201). -/
  | add (rd rs rt : Reg)
  /-- ADDI (R205). -/
  | addi (rt rs : Reg) (imm : Imm16)
  /-- ADDU (R202). -/
  | addu (rd rs rt : Reg)
  /-- ADDIU (R206). -/
  | addiu (rt rs : Reg) (imm : Imm16)
  /-- SUB (R203). -/
  | sub (rd rs rt : Reg)
  /-- SLTI (R222). -/
  | slti (rt rs : Reg) (imm : Imm16)
  /-- SUBU (R204). -/
  | subu (rd rs rt : Reg)
  /-- SLTIU (R223). -/
  | sltiu (rt rs : Reg) (imm : Imm16)
  /-- AND (R210). -/
  | and (rd rs rt : Reg)
  /-- ANDI (R214). -/
  | andi (rt rs : Reg) (imm : Imm16)
  /-- OR (R211). -/
  | or (rd rs rt : Reg)
  /-- ORI (R215). -/
  | ori (rt rs : Reg) (imm : Imm16)
  /-- XOR (R212). -/
  | xor (rd rs rt : Reg)
  /-- XORI (R216). -/
  | xori (rt rs : Reg) (imm : Imm16)
  /-- NOR (R213). -/
  | nor (rd rs rt : Reg)
  /-- LUI (R217). -/
  | lui (rt : Reg) (imm : Imm16)
  /-- SLT (R220). -/
  | slt (rd rs rt : Reg)
  /-- SLTU (R221). -/
  | sltu (rd rs rt : Reg)
  /-- MOVZ (R230). -/
  | movz (rd rs rt : Reg)
  /-- MOVN (R231). -/
  | movn (rd rs rt : Reg)
  /-- CLZ (R238). -/
  | clz (rd rs rt : Reg)
  /-- CLO (R239). -/
  | clo (rd rs rt : Reg)
  /-- SEB (R240). -/
  | seb (rd rt : Reg)
  /-- SEH (R241). -/
  | seh (rd rt : Reg)
  /-- WSBH (R242). -/
  | wsbh (rd rt : Reg)
  /-- EXT (R244). -/
  | ext (rt rs : Reg) (msbd lsb : BitVec 5)
  /-- INS (R245). -/
  | ins (rt rs : Reg) (msb lsb : BitVec 5)
  /-- SLL (R260). -/
  | sll (rd rt : Reg) (sa : BitVec 5)
  /-- SLLV (R263). -/
  | sllv (rd rt rs : Reg)
  /-- SRL (R261). -/
  | srl (rd rt : Reg) (sa : BitVec 5)
  /-- SRLV (R264). -/
  | srlv (rd rt rs : Reg)
  /-- SRA (R262). -/
  | sra (rd rt : Reg) (sa : BitVec 5)
  /-- SRAV (R265). -/
  | srav (rd rt rs : Reg)
  /-- ROTR (R266). -/
  | rotr (rd rt : Reg) (sa : BitVec 5)
  /-- ROTRV (R267). -/
  | rotrv (rd rt rs : Reg)
  /-- MULT (R281). -/
  | mult (rs rt : Reg)
  /-- MULTU (R282). -/
  | multu (rs rt : Reg)
  /-- DIV (R283). -/
  | div (rs rt : Reg)
  /-- DIVU (R284). -/
  | divu (rs rt : Reg)
  /-- MFHI (R285). -/
  | mfhi (rd : Reg)
  /-- MTHI (R287). -/
  | mthi (rs : Reg)
  /-- MFLO (R286). -/
  | mflo (rd : Reg)
  /-- MTLO (R288). -/
  | mtlo (rs : Reg)
  /-- MUL (R290). -/
  | mul (rd rs rt : Reg)
  /-- MADD (R291). -/
  | madd (rs rt : Reg)
  /-- MADDU (R292). -/
  | maddu (rs rt : Reg)
  /-- MSUB (R293). -/
  | msub (rs rt : Reg)
  /-- MSUBU (R294). -/
  | msubu (rs rt : Reg)
  /-- J (R330). -/
  | j (index : BitVec 26)
  /-- JAL (R331). -/
  | jal (index : BitVec 26)
  /-- JR (R332, R334). -/
  | jr (rs : Reg) (hint : BitVec 5)
  /-- JALR (R333, R334). -/
  | jalr (rd rs : Reg) (hint : BitVec 5)
  /-- BEQ (R315). -/
  | beq (rs rt : Reg) (off : Imm16)
  /-- BNE (R316). -/
  | bne (rs rt : Reg) (off : Imm16)
  /-- BLEZ (R317). -/
  | blez (rs : Reg) (off : Imm16)
  /-- BGTZ (R318). -/
  | bgtz (rs : Reg) (off : Imm16)
  /-- BEQL (R323). -/
  | beql (rs rt : Reg) (off : Imm16)
  /-- BNEL (R324). -/
  | bnel (rs rt : Reg) (off : Imm16)
  /-- BLEZL (R325). -/
  | blezl (rs : Reg) (off : Imm16)
  /-- BGTZL (R326). -/
  | bgtzl (rs : Reg) (off : Imm16)
  /-- BLTZ (R319). -/
  | bltz (rs : Reg) (off : Imm16)
  /-- BGEZ (R320). -/
  | bgez (rs : Reg) (off : Imm16)
  /-- BLTZL (R327). -/
  | bltzl (rs : Reg) (off : Imm16)
  /-- BGEZL (R328). -/
  | bgezl (rs : Reg) (off : Imm16)
  /-- BLTZAL (R321). -/
  | bltzal (rs : Reg) (off : Imm16)
  /-- BGEZAL (R322). -/
  | bgezal (rs : Reg) (off : Imm16)
  /-- BLTZALL (R329). -/
  | bltzall (rs : Reg) (off : Imm16)
  /-- BGEZALL (R335). -/
  | bgezall (rs : Reg) (off : Imm16)
  /-- LB (R351). -/
  | lb (rt base : Reg) (off : Imm16)
  /-- LBU (R352). -/
  | lbu (rt base : Reg) (off : Imm16)
  /-- LH (R353). -/
  | lh (rt base : Reg) (off : Imm16)
  /-- LHU (R354). -/
  | lhu (rt base : Reg) (off : Imm16)
  /-- LW (R355). -/
  | lw (rt base : Reg) (off : Imm16)
  /-- LWL (R366). -/
  | lwl (rt base : Reg) (off : Imm16)
  /-- LWR (R367). -/
  | lwr (rt base : Reg) (off : Imm16)
  /-- LL (R380). -/
  | ll (rt base : Reg) (off : Imm16)
  /-- SB (R356). -/
  | sb (rt base : Reg) (off : Imm16)
  /-- SH (R357). -/
  | sh (rt base : Reg) (off : Imm16)
  /-- SW (R358). -/
  | sw (rt base : Reg) (off : Imm16)
  /-- SWL (R368). -/
  | swl (rt base : Reg) (off : Imm16)
  /-- SWR (R369). -/
  | swr (rt base : Reg) (off : Imm16)
  /-- SC (R381). -/
  | sc (rt base : Reg) (off : Imm16)
  /-- PREF (R385). -/
  | pref (hint : BitVec 5) (base : Reg) (off : Imm16)
  /-- CACHE (R388). -/
  | cache (op : BitVec 5) (base : Reg) (off : Imm16)
  /-- SYNC (R384). -/
  | sync (stype : BitVec 5)
  /-- SYNCI (R386). -/
  | synci (base : Reg) (off : Imm16)
  /-- TGE (R401). -/
  | tge (rs rt : Reg) (code : BitVec 10)
  /-- TGEU (R402). -/
  | tgeu (rs rt : Reg) (code : BitVec 10)
  /-- TLT (R403). -/
  | tlt (rs rt : Reg) (code : BitVec 10)
  /-- TLTU (R405). -/
  | tltu (rs rt : Reg) (code : BitVec 10)
  /-- TEQ (R404). -/
  | teq (rs rt : Reg) (code : BitVec 10)
  /-- TNE (R406). -/
  | tne (rs rt : Reg) (code : BitVec 10)
  /-- TGEI (R407). -/
  | tgei (rs : Reg) (imm : Imm16)
  /-- TGEIU (R408). -/
  | tgeiu (rs : Reg) (imm : Imm16)
  /-- TLTI (R409). -/
  | tlti (rs : Reg) (imm : Imm16)
  /-- TLTIU (R410). -/
  | tltiu (rs : Reg) (imm : Imm16)
  /-- TEQI (R411). -/
  | teqi (rs : Reg) (imm : Imm16)
  /-- TNEI (R412). -/
  | tnei (rs : Reg) (imm : Imm16)
  /-- SYSCALL (R415). -/
  | syscall (code : BitVec 20)
  /-- BREAK (R416). -/
  | brk (code : BitVec 20)
  /-- SDBBP (R417). -/
  | sdbbp (code : BitVec 20)
  /-- MFC0 (R430). -/
  | mfc0 (rt rd : Reg) (sel : BitVec 3)
  /-- MTC0 (R431). -/
  | mtc0 (rt rd : Reg) (sel : BitVec 3)
  /-- RDPGPR (R441). -/
  | rdpgpr (rd rt : Reg)
  /-- WRPGPR (R442). -/
  | wrpgpr (rd rt : Reg)
  /-- DI (R433). -/
  | di (rt : Reg)
  /-- EI (R434). -/
  | ei (rt : Reg)
  /-- RDHWR (R440). -/
  | rdhwr (rt rd : Reg)
  /-- TLBR (R446). -/
  | tlbr
  /-- TLBWI (R447). -/
  | tlbwi
  /-- TLBWR (R448). -/
  | tlbwr
  /-- TLBP (R445). -/
  | tlbp
  /-- ERET (R420). -/
  | eret
  /-- DERET (R421). -/
  | deret
  /-- WAIT (R425). -/
  | wait (code : BitVec 19)
  /-- COP1 (R172, R450). -/
  | cop1 (rest : BitVec 26)
  /-- COP2 (R172, R450). -/
  | cop2 (rest : BitVec 26)
  /-- COP1X (R172, R450). -/
  | cop1x (rest : BitVec 26)
  /-- LWC1 (R172, R450). -/
  | lwc1 (rest : BitVec 26)
  /-- LWC2 (R172, R450). -/
  | lwc2 (rest : BitVec 26)
  /-- LDC1 (R172, R450). -/
  | ldc1 (rest : BitVec 26)
  /-- LDC2 (R172, R450). -/
  | ldc2 (rest : BitVec 26)
  /-- SWC1 (R172, R450). -/
  | swc1 (rest : BitVec 26)
  /-- SWC2 (R172, R450). -/
  | swc2 (rest : BitVec 26)
  /-- SDC1 (R172, R450). -/
  | sdc1 (rest : BitVec 26)
  /-- SDC2 (R172, R450). -/
  | sdc2 (rest : BitVec 26)
  /-- MOVCI (R172, R450). -/
  | movci (rest : BitVec 20)
deriving DecidableEq, Repr

end Sys2Proof
end

