-- ==== Sys2Proof/WellFormed.lean ====
section
/-! DEFINITION. The operand constraints of an instruction that are not fixed fields of its encoding (30_encoding.md R175,
R176; 43_branch.md R321, R333). -/

namespace Sys2Proof

/-- Whether the operands satisfy the constraints the spec puts on them. `hint` of JR and JALR: bits 9:6 are 0 (R176).
EXT: lsb + msbd at most 31; INS: lsb at most msb (R175). JALR: rd and rs differ (R333). The linking branches: rs is not
31 (R321). CLZ and CLO: rt repeats rd (R175). -/
def Instr.wellFormed : Instr → Bool
  | .add _ _ _ => true
  | .addi _ _ _ => true
  | .addu _ _ _ => true
  | .addiu _ _ _ => true
  | .sub _ _ _ => true
  | .slti _ _ _ => true
  | .subu _ _ _ => true
  | .sltiu _ _ _ => true
  | .and _ _ _ => true
  | .andi _ _ _ => true
  | .or _ _ _ => true
  | .ori _ _ _ => true
  | .xor _ _ _ => true
  | .xori _ _ _ => true
  | .nor _ _ _ => true
  | .lui _ _ => true
  | .slt _ _ _ => true
  | .sltu _ _ _ => true
  | .movz _ _ _ => true
  | .movn _ _ _ => true
  | .clz rd _ rt => rt == rd
  | .clo rd _ rt => rt == rd
  | .seb _ _ => true
  | .seh _ _ => true
  | .wsbh _ _ => true
  | .ext _ _ msbd lsb => decide (lsb.toNat + msbd.toNat ≤ 31)
  | .ins _ _ msb lsb => decide (lsb.toNat ≤ msb.toNat)
  | .sll _ _ _ => true
  | .sllv _ _ _ => true
  | .srl _ _ _ => true
  | .srlv _ _ _ => true
  | .sra _ _ _ => true
  | .srav _ _ _ => true
  | .rotr _ _ _ => true
  | .rotrv _ _ _ => true
  | .mult _ _ => true
  | .multu _ _ => true
  | .div _ _ => true
  | .divu _ _ => true
  | .mfhi _ => true
  | .mthi _ => true
  | .mflo _ => true
  | .mtlo _ => true
  | .mul _ _ _ => true
  | .madd _ _ => true
  | .maddu _ _ => true
  | .msub _ _ => true
  | .msubu _ _ => true
  | .j _ => true
  | .jal _ => true
  | .jr _ hint => hint == 0#5 || hint == 16#5
  | .jalr rd rs hint => (hint == 0#5 || hint == 16#5) && rd != rs
  | .beq _ _ _ => true
  | .bne _ _ _ => true
  | .blez _ _ => true
  | .bgtz _ _ => true
  | .beql _ _ _ => true
  | .bnel _ _ _ => true
  | .blezl _ _ => true
  | .bgtzl _ _ => true
  | .bltz _ _ => true
  | .bgez _ _ => true
  | .bltzl _ _ => true
  | .bgezl _ _ => true
  | .bltzal rs _ => rs != 31#5
  | .bgezal rs _ => rs != 31#5
  | .bltzall rs _ => rs != 31#5
  | .bgezall rs _ => rs != 31#5
  | .lb _ _ _ => true
  | .lbu _ _ _ => true
  | .lh _ _ _ => true
  | .lhu _ _ _ => true
  | .lw _ _ _ => true
  | .lwl _ _ _ => true
  | .lwr _ _ _ => true
  | .ll _ _ _ => true
  | .sb _ _ _ => true
  | .sh _ _ _ => true
  | .sw _ _ _ => true
  | .swl _ _ _ => true
  | .swr _ _ _ => true
  | .sc _ _ _ => true
  | .pref _ _ _ => true
  | .cache _ _ _ => true
  | .sync _ => true
  | .synci _ _ => true
  | .tge _ _ _ => true
  | .tgeu _ _ _ => true
  | .tlt _ _ _ => true
  | .tltu _ _ _ => true
  | .teq _ _ _ => true
  | .tne _ _ _ => true
  | .tgei _ _ => true
  | .tgeiu _ _ => true
  | .tlti _ _ => true
  | .tltiu _ _ => true
  | .teqi _ _ => true
  | .tnei _ _ => true
  | .syscall _ => true
  | .brk _ => true
  | .sdbbp _ => true
  | .mfc0 _ _ _ => true
  | .mtc0 _ _ _ => true
  | .rdpgpr _ _ => true
  | .wrpgpr _ _ => true
  | .di _ => true
  | .ei _ => true
  | .rdhwr _ _ => true
  | .tlbr => true
  | .tlbwi => true
  | .tlbwr => true
  | .tlbp => true
  | .eret => true
  | .deret => true
  | .wait _ => true
  | .cop1 _ => true
  | .cop2 _ => true
  | .cop1x _ => true
  | .lwc1 _ => true
  | .lwc2 _ => true
  | .ldc1 _ => true
  | .ldc2 _ => true
  | .swc1 _ => true
  | .swc2 _ => true
  | .sdc1 _ => true
  | .sdc2 _ => true
  | .movci _ => true

end Sys2Proof
end

