-- ==== Sys2Proof/Decode.lean ====
section
/-! DEFINITION. Byte order of a word (20_memory.md R101), field extraction, the decoder and the encoder
(30_encoding.md R160 to R177). -/

namespace Sys2Proof

/-! ### Byte order -/

/-- The value of the bytes `bs`, lowest address first, in little-endian order (R101). -/
def assembleLE : List Byte → Word
  | [] => 0
  | b :: bs => (assembleLE bs <<< 8) ||| b.setWidth 32

/-- R101: the value of the bytes `bs`, lowest address first, in the byte order `be`. -/
def assemble (be : Bool) (bs : List Byte) : Word :=
  if be then assembleLE bs.reverse else assembleLE bs

/-- The low `n` bytes of `w`, least significant first. -/
def splitLE : Nat → Word → List Byte
  | 0, _ => []
  | n + 1, w => w.setWidth 8 :: splitLE n (w >>> 8)

/-- R101: the `n` bytes that hold the low `8 n` bits of `w`, lowest address first, in the byte order `be`. -/
def split (be : Bool) (n : Nat) (w : Word) : List Byte :=
  if be then (splitLE n w).reverse else splitLE n w

/-! ### Fields of a word (R161) -/

/-- opcode, bits 31:26. -/
def fOp (w : Word) : BitVec 6 := w.extractLsb' 26 6
/-- rs, bits 25:21. -/
def fRs (w : Word) : BitVec 5 := w.extractLsb' 21 5
/-- rt, bits 20:16. -/
def fRt (w : Word) : BitVec 5 := w.extractLsb' 16 5
/-- rd, bits 15:11. -/
def fRd (w : Word) : BitVec 5 := w.extractLsb' 11 5
/-- sa, bits 10:6. -/
def fSa (w : Word) : BitVec 5 := w.extractLsb' 6 5
/-- funct, bits 5:0. -/
def fFn (w : Word) : BitVec 6 := w.extractLsb' 0 6
/-- immediate, bits 15:0. -/
def fImm (w : Word) : Imm16 := w.extractLsb' 0 16
/-- instr_index, bits 25:0. -/
def fIndex (w : Word) : BitVec 26 := w.extractLsb' 0 26
/-- The 20-bit code of SYSCALL, BREAK and SDBBP, bits 25:6. -/
def fCode20 (w : Word) : BitVec 20 := w.extractLsb' 6 20
/-- The 10-bit code of the register traps, bits 15:6. -/
def fCode10 (w : Word) : BitVec 10 := w.extractLsb' 6 10
/-- The 19-bit code of WAIT, bits 24:6. -/
def fCode19 (w : Word) : BitVec 19 := w.extractLsb' 6 19
/-- Bits 10:3 of MFC0 and MTC0, required 0. -/
def fMid8 (w : Word) : BitVec 8 := w.extractLsb' 3 8
/-- sel, bits 2:0. -/
def fSel (w : Word) : BitVec 3 := w.extractLsb' 0 3

/-! ### The decoder (R177) -/

/-- `some i` when `c` holds: the fixed-zero fields of a pattern (R174). -/
def when (c : Bool) (i : Instr) : Option Instr := if c then some i else none

/-- SPECIAL, by funct (R166). -/
def decodeSpecial (w : Word) : Option Instr :=
  match (fFn w).toNat with
  | 0x00 => when (fRs w == 0#5) (.sll (fRd w) (fRt w) (fSa w))
  | 0x01 => some (.movci (fCode20 w))
  | 0x02 =>
    if fRs w == 0#5 then some (.srl (fRd w) (fRt w) (fSa w))
    else when (fRs w == 1#5) (.rotr (fRd w) (fRt w) (fSa w))
  | 0x03 => when (fRs w == 0#5) (.sra (fRd w) (fRt w) (fSa w))
  | 0x04 => when (fSa w == 0#5) (.sllv (fRd w) (fRt w) (fRs w))
  | 0x06 =>
    if fSa w == 0#5 then some (.srlv (fRd w) (fRt w) (fRs w))
    else when (fSa w == 1#5) (.rotrv (fRd w) (fRt w) (fRs w))
  | 0x07 => when (fSa w == 0#5) (.srav (fRd w) (fRt w) (fRs w))
  | 0x08 => when (fRt w == 0#5 && fRd w == 0#5 && (fSa w == 0#5 || fSa w == 16#5)) (.jr (fRs w) (fSa w))
  | 0x09 => when (fRt w == 0#5 && (fSa w == 0#5 || fSa w == 16#5)) (.jalr (fRd w) (fRs w) (fSa w))
  | 0x0A => when (fSa w == 0#5) (.movz (fRd w) (fRs w) (fRt w))
  | 0x0B => when (fSa w == 0#5) (.movn (fRd w) (fRs w) (fRt w))
  | 0x0C => some (.syscall (fCode20 w))
  | 0x0D => some (.brk (fCode20 w))
  | 0x0F => when (fRs w == 0#5 && fRt w == 0#5 && fRd w == 0#5) (.sync (fSa w))
  | 0x10 => when (fRs w == 0#5 && fRt w == 0#5 && fSa w == 0#5) (.mfhi (fRd w))
  | 0x11 => when (fRt w == 0#5 && fRd w == 0#5 && fSa w == 0#5) (.mthi (fRs w))
  | 0x12 => when (fRs w == 0#5 && fRt w == 0#5 && fSa w == 0#5) (.mflo (fRd w))
  | 0x13 => when (fRt w == 0#5 && fRd w == 0#5 && fSa w == 0#5) (.mtlo (fRs w))
  | 0x18 => when (fRd w == 0#5 && fSa w == 0#5) (.mult (fRs w) (fRt w))
  | 0x19 => when (fRd w == 0#5 && fSa w == 0#5) (.multu (fRs w) (fRt w))
  | 0x1A => when (fRd w == 0#5 && fSa w == 0#5) (.div (fRs w) (fRt w))
  | 0x1B => when (fRd w == 0#5 && fSa w == 0#5) (.divu (fRs w) (fRt w))
  | 0x20 => when (fSa w == 0#5) (.add (fRd w) (fRs w) (fRt w))
  | 0x21 => when (fSa w == 0#5) (.addu (fRd w) (fRs w) (fRt w))
  | 0x22 => when (fSa w == 0#5) (.sub (fRd w) (fRs w) (fRt w))
  | 0x23 => when (fSa w == 0#5) (.subu (fRd w) (fRs w) (fRt w))
  | 0x24 => when (fSa w == 0#5) (.and (fRd w) (fRs w) (fRt w))
  | 0x25 => when (fSa w == 0#5) (.or (fRd w) (fRs w) (fRt w))
  | 0x26 => when (fSa w == 0#5) (.xor (fRd w) (fRs w) (fRt w))
  | 0x27 => when (fSa w == 0#5) (.nor (fRd w) (fRs w) (fRt w))
  | 0x2A => when (fSa w == 0#5) (.slt (fRd w) (fRs w) (fRt w))
  | 0x2B => when (fSa w == 0#5) (.sltu (fRd w) (fRs w) (fRt w))
  | 0x30 => some (.tge (fRs w) (fRt w) (fCode10 w))
  | 0x31 => some (.tgeu (fRs w) (fRt w) (fCode10 w))
  | 0x32 => some (.tlt (fRs w) (fRt w) (fCode10 w))
  | 0x33 => some (.tltu (fRs w) (fRt w) (fCode10 w))
  | 0x34 => some (.teq (fRs w) (fRt w) (fCode10 w))
  | 0x36 => some (.tne (fRs w) (fRt w) (fCode10 w))
  | _ => none

/-- REGIMM, by the rt field (R167). -/
def decodeRegimm (w : Word) : Option Instr :=
  match (fRt w).toNat with
  | 0x00 => some (.bltz (fRs w) (fImm w))
  | 0x01 => some (.bgez (fRs w) (fImm w))
  | 0x02 => some (.bltzl (fRs w) (fImm w))
  | 0x03 => some (.bgezl (fRs w) (fImm w))
  | 0x08 => some (.tgei (fRs w) (fImm w))
  | 0x09 => some (.tgeiu (fRs w) (fImm w))
  | 0x0A => some (.tlti (fRs w) (fImm w))
  | 0x0B => some (.tltiu (fRs w) (fImm w))
  | 0x0C => some (.teqi (fRs w) (fImm w))
  | 0x0E => some (.tnei (fRs w) (fImm w))
  | 0x10 => some (.bltzal (fRs w) (fImm w))
  | 0x11 => some (.bgezal (fRs w) (fImm w))
  | 0x12 => some (.bltzall (fRs w) (fImm w))
  | 0x13 => some (.bgezall (fRs w) (fImm w))
  | 0x1F => some (.synci (fRs w) (fImm w))
  | _ => none

/-- SPECIAL2, by funct (R168). -/
def decodeSpecial2 (w : Word) : Option Instr :=
  match (fFn w).toNat with
  | 0x00 => when (fRd w == 0#5 && fSa w == 0#5) (.madd (fRs w) (fRt w))
  | 0x01 => when (fRd w == 0#5 && fSa w == 0#5) (.maddu (fRs w) (fRt w))
  | 0x02 => when (fSa w == 0#5) (.mul (fRd w) (fRs w) (fRt w))
  | 0x04 => when (fRd w == 0#5 && fSa w == 0#5) (.msub (fRs w) (fRt w))
  | 0x05 => when (fRd w == 0#5 && fSa w == 0#5) (.msubu (fRs w) (fRt w))
  | 0x20 => when (fSa w == 0#5) (.clz (fRd w) (fRs w) (fRt w))
  | 0x21 => when (fSa w == 0#5) (.clo (fRd w) (fRs w) (fRt w))
  | 0x3F => some (.sdbbp (fCode20 w))
  | _ => none

/-- SPECIAL3, by funct, BSHFL by sa (R169). -/
def decodeSpecial3 (w : Word) : Option Instr :=
  match (fFn w).toNat with
  | 0x00 => some (.ext (fRt w) (fRs w) (fRd w) (fSa w))
  | 0x04 => some (.ins (fRt w) (fRs w) (fRd w) (fSa w))
  | 0x20 =>
    match (fSa w).toNat with
    | 0x02 => when (fRs w == 0#5) (.wsbh (fRd w) (fRt w))
    | 0x10 => when (fRs w == 0#5) (.seb (fRd w) (fRt w))
    | 0x18 => when (fRs w == 0#5) (.seh (fRd w) (fRt w))
    | _ => none
  | 0x3B => when (fRs w == 0#5 && fSa w == 0#5) (.rdhwr (fRt w) (fRd w))
  | _ => none

/-- COP0 words with bit 25 set, by funct (R170). -/
def decodeCO (w : Word) : Option Instr :=
  match (fFn w).toNat with
  | 0x01 => when (fCode19 w == 0#19) .tlbr
  | 0x02 => when (fCode19 w == 0#19) .tlbwi
  | 0x06 => when (fCode19 w == 0#19) .tlbwr
  | 0x08 => when (fCode19 w == 0#19) .tlbp
  | 0x18 => when (fCode19 w == 0#19) .eret
  | 0x1F => when (fCode19 w == 0#19) .deret
  | 0x20 => some (.wait (fCode19 w))
  | _ => none

/-- COP0, by rs (R170). -/
def decodeCop0 (w : Word) : Option Instr :=
  if w.getLsbD 25 then decodeCO w
  else
    match (fRs w).toNat with
    | 0x00 => when (fMid8 w == 0#8) (.mfc0 (fRt w) (fRd w) (fSel w))
    | 0x04 => when (fMid8 w == 0#8) (.mtc0 (fRt w) (fRd w) (fSel w))
    | 0x0A => when (fSa w == 0#5 && fFn w == 0#6) (.rdpgpr (fRd w) (fRt w))
    | 0x0B =>
      if fRd w == 12#5 && fSa w == 0#5 then
        if fFn w == 0#6 then some (.di (fRt w)) else when (fFn w == 0x20#6) (.ei (fRt w))
      else none
    | 0x0E => when (fSa w == 0#5 && fFn w == 0#6) (.wrpgpr (fRd w) (fRt w))
    | _ => none

/-- R165, R177: the instruction a word stands for; `none` is a reserved encoding (R173, R174). -/
def decode (w : Word) : Option Instr :=
  match (fOp w).toNat with
  | 0x00 => decodeSpecial w
  | 0x01 => decodeRegimm w
  | 0x02 => some (.j (fIndex w))
  | 0x03 => some (.jal (fIndex w))
  | 0x04 => some (.beq (fRs w) (fRt w) (fImm w))
  | 0x05 => some (.bne (fRs w) (fRt w) (fImm w))
  | 0x06 => when (fRt w == 0#5) (.blez (fRs w) (fImm w))
  | 0x07 => when (fRt w == 0#5) (.bgtz (fRs w) (fImm w))
  | 0x08 => some (.addi (fRt w) (fRs w) (fImm w))
  | 0x09 => some (.addiu (fRt w) (fRs w) (fImm w))
  | 0x0A => some (.slti (fRt w) (fRs w) (fImm w))
  | 0x0B => some (.sltiu (fRt w) (fRs w) (fImm w))
  | 0x0C => some (.andi (fRt w) (fRs w) (fImm w))
  | 0x0D => some (.ori (fRt w) (fRs w) (fImm w))
  | 0x0E => some (.xori (fRt w) (fRs w) (fImm w))
  | 0x0F => when (fRs w == 0#5) (.lui (fRt w) (fImm w))
  | 0x10 => decodeCop0 w
  | 0x11 => some (.cop1 (fIndex w))
  | 0x12 => some (.cop2 (fIndex w))
  | 0x13 => some (.cop1x (fIndex w))
  | 0x14 => some (.beql (fRs w) (fRt w) (fImm w))
  | 0x15 => some (.bnel (fRs w) (fRt w) (fImm w))
  | 0x16 => when (fRt w == 0#5) (.blezl (fRs w) (fImm w))
  | 0x17 => when (fRt w == 0#5) (.bgtzl (fRs w) (fImm w))
  | 0x1C => decodeSpecial2 w
  | 0x1F => decodeSpecial3 w
  | 0x20 => some (.lb (fRt w) (fRs w) (fImm w))
  | 0x21 => some (.lh (fRt w) (fRs w) (fImm w))
  | 0x22 => some (.lwl (fRt w) (fRs w) (fImm w))
  | 0x23 => some (.lw (fRt w) (fRs w) (fImm w))
  | 0x24 => some (.lbu (fRt w) (fRs w) (fImm w))
  | 0x25 => some (.lhu (fRt w) (fRs w) (fImm w))
  | 0x26 => some (.lwr (fRt w) (fRs w) (fImm w))
  | 0x28 => some (.sb (fRt w) (fRs w) (fImm w))
  | 0x29 => some (.sh (fRt w) (fRs w) (fImm w))
  | 0x2A => some (.swl (fRt w) (fRs w) (fImm w))
  | 0x2B => some (.sw (fRt w) (fRs w) (fImm w))
  | 0x2E => some (.swr (fRt w) (fRs w) (fImm w))
  | 0x2F => some (.cache (fRt w) (fRs w) (fImm w))
  | 0x30 => some (.ll (fRt w) (fRs w) (fImm w))
  | 0x31 => some (.lwc1 (fIndex w))
  | 0x32 => some (.lwc2 (fIndex w))
  | 0x33 => some (.pref (fRt w) (fRs w) (fImm w))
  | 0x35 => some (.ldc1 (fIndex w))
  | 0x36 => some (.ldc2 (fIndex w))
  | 0x38 => some (.sc (fRt w) (fRs w) (fImm w))
  | 0x39 => some (.swc1 (fIndex w))
  | 0x3A => some (.swc2 (fIndex w))
  | 0x3D => some (.sdc1 (fIndex w))
  | 0x3E => some (.sdc2 (fIndex w))
  | _ => none

/-! ### The encoder -/

/-- R161: an R-type word. -/
def rType (op : BitVec 6) (rs rt rd sa : BitVec 5) (fn : BitVec 6) : Word := op ++ rs ++ rt ++ rd ++ sa ++ fn
/-- R161: an I-type word. -/
def iType (op : BitVec 6) (rs rt : BitVec 5) (imm : Imm16) : Word := op ++ rs ++ rt ++ imm
/-- R161: a J-type word, or an opcode with 26 further bits. -/
def jType (op : BitVec 6) (index : BitVec 26) : Word := op ++ index
/-- A register trap with its 10-bit code (R171). -/
def tType (rs rt : BitVec 5) (code : BitVec 10) (fn : BitVec 6) : Word := 0#6 ++ rs ++ rt ++ code ++ fn
/-- An opcode and funct around a 20-bit code (R171). -/
def cType (op : BitVec 6) (code : BitVec 20) (fn : BitVec 6) : Word := op ++ code ++ fn
/-- A CO word: COP0, bit 25 set, 19 bits, funct (R170). -/
def wType (code : BitVec 19) (fn : BitVec 6) : Word := 0x10#6 ++ 1#1 ++ code ++ fn
/-- MFC0 and MTC0 (R171). -/
def mType (rs rt rd : BitVec 5) (sel : BitVec 3) : Word := 0x10#6 ++ rs ++ rt ++ rd ++ 0#8 ++ sel

/-- R171: the word of an instruction. -/
def encode : Instr → Word
  | .add rd rs rt => rType 0x00#6 rs rt rd 0#5 0x20#6
  | .addi rt rs imm => iType 0x08#6 rs rt imm
  | .addu rd rs rt => rType 0x00#6 rs rt rd 0#5 0x21#6
  | .addiu rt rs imm => iType 0x09#6 rs rt imm
  | .sub rd rs rt => rType 0x00#6 rs rt rd 0#5 0x22#6
  | .slti rt rs imm => iType 0x0A#6 rs rt imm
  | .subu rd rs rt => rType 0x00#6 rs rt rd 0#5 0x23#6
  | .sltiu rt rs imm => iType 0x0B#6 rs rt imm
  | .and rd rs rt => rType 0x00#6 rs rt rd 0#5 0x24#6
  | .andi rt rs imm => iType 0x0C#6 rs rt imm
  | .or rd rs rt => rType 0x00#6 rs rt rd 0#5 0x25#6
  | .ori rt rs imm => iType 0x0D#6 rs rt imm
  | .xor rd rs rt => rType 0x00#6 rs rt rd 0#5 0x26#6
  | .xori rt rs imm => iType 0x0E#6 rs rt imm
  | .nor rd rs rt => rType 0x00#6 rs rt rd 0#5 0x27#6
  | .lui rt imm => iType 0x0F#6 0#5 rt imm
  | .slt rd rs rt => rType 0x00#6 rs rt rd 0#5 0x2A#6
  | .sltu rd rs rt => rType 0x00#6 rs rt rd 0#5 0x2B#6
  | .movz rd rs rt => rType 0x00#6 rs rt rd 0#5 0x0A#6
  | .movn rd rs rt => rType 0x00#6 rs rt rd 0#5 0x0B#6
  | .clz rd rs rt => rType 0x1C#6 rs rt rd 0#5 0x20#6
  | .clo rd rs rt => rType 0x1C#6 rs rt rd 0#5 0x21#6
  | .seb rd rt => rType 0x1F#6 0#5 rt rd 0x10#5 0x20#6
  | .seh rd rt => rType 0x1F#6 0#5 rt rd 0x18#5 0x20#6
  | .wsbh rd rt => rType 0x1F#6 0#5 rt rd 0x02#5 0x20#6
  | .ext rt rs msbd lsb => rType 0x1F#6 rs rt msbd lsb 0x00#6
  | .ins rt rs msb lsb => rType 0x1F#6 rs rt msb lsb 0x04#6
  | .sll rd rt sa => rType 0x00#6 0#5 rt rd sa 0x00#6
  | .sllv rd rt rs => rType 0x00#6 rs rt rd 0#5 0x04#6
  | .srl rd rt sa => rType 0x00#6 0#5 rt rd sa 0x02#6
  | .srlv rd rt rs => rType 0x00#6 rs rt rd 0#5 0x06#6
  | .sra rd rt sa => rType 0x00#6 0#5 rt rd sa 0x03#6
  | .srav rd rt rs => rType 0x00#6 rs rt rd 0#5 0x07#6
  | .rotr rd rt sa => rType 0x00#6 1#5 rt rd sa 0x02#6
  | .rotrv rd rt rs => rType 0x00#6 rs rt rd 1#5 0x06#6
  | .mult rs rt => rType 0x00#6 rs rt 0#5 0#5 0x18#6
  | .multu rs rt => rType 0x00#6 rs rt 0#5 0#5 0x19#6
  | .div rs rt => rType 0x00#6 rs rt 0#5 0#5 0x1A#6
  | .divu rs rt => rType 0x00#6 rs rt 0#5 0#5 0x1B#6
  | .mfhi rd => rType 0x00#6 0#5 0#5 rd 0#5 0x10#6
  | .mthi rs => rType 0x00#6 rs 0#5 0#5 0#5 0x11#6
  | .mflo rd => rType 0x00#6 0#5 0#5 rd 0#5 0x12#6
  | .mtlo rs => rType 0x00#6 rs 0#5 0#5 0#5 0x13#6
  | .mul rd rs rt => rType 0x1C#6 rs rt rd 0#5 0x02#6
  | .madd rs rt => rType 0x1C#6 rs rt 0#5 0#5 0x00#6
  | .maddu rs rt => rType 0x1C#6 rs rt 0#5 0#5 0x01#6
  | .msub rs rt => rType 0x1C#6 rs rt 0#5 0#5 0x04#6
  | .msubu rs rt => rType 0x1C#6 rs rt 0#5 0#5 0x05#6
  | .j index => jType 0x02#6 index
  | .jal index => jType 0x03#6 index
  | .jr rs hint => rType 0x00#6 rs 0#5 0#5 hint 0x08#6
  | .jalr rd rs hint => rType 0x00#6 rs 0#5 rd hint 0x09#6
  | .beq rs rt off => iType 0x04#6 rs rt off
  | .bne rs rt off => iType 0x05#6 rs rt off
  | .blez rs off => iType 0x06#6 rs 0#5 off
  | .bgtz rs off => iType 0x07#6 rs 0#5 off
  | .beql rs rt off => iType 0x14#6 rs rt off
  | .bnel rs rt off => iType 0x15#6 rs rt off
  | .blezl rs off => iType 0x16#6 rs 0#5 off
  | .bgtzl rs off => iType 0x17#6 rs 0#5 off
  | .bltz rs off => iType 0x01#6 rs 0x00#5 off
  | .bgez rs off => iType 0x01#6 rs 0x01#5 off
  | .bltzl rs off => iType 0x01#6 rs 0x02#5 off
  | .bgezl rs off => iType 0x01#6 rs 0x03#5 off
  | .bltzal rs off => iType 0x01#6 rs 0x10#5 off
  | .bgezal rs off => iType 0x01#6 rs 0x11#5 off
  | .bltzall rs off => iType 0x01#6 rs 0x12#5 off
  | .bgezall rs off => iType 0x01#6 rs 0x13#5 off
  | .lb rt base off => iType 0x20#6 base rt off
  | .lbu rt base off => iType 0x24#6 base rt off
  | .lh rt base off => iType 0x21#6 base rt off
  | .lhu rt base off => iType 0x25#6 base rt off
  | .lw rt base off => iType 0x23#6 base rt off
  | .lwl rt base off => iType 0x22#6 base rt off
  | .lwr rt base off => iType 0x26#6 base rt off
  | .ll rt base off => iType 0x30#6 base rt off
  | .sb rt base off => iType 0x28#6 base rt off
  | .sh rt base off => iType 0x29#6 base rt off
  | .sw rt base off => iType 0x2B#6 base rt off
  | .swl rt base off => iType 0x2A#6 base rt off
  | .swr rt base off => iType 0x2E#6 base rt off
  | .sc rt base off => iType 0x38#6 base rt off
  | .pref hint base off => iType 0x33#6 base hint off
  | .cache op base off => iType 0x2F#6 base op off
  | .sync stype => rType 0x00#6 0#5 0#5 0#5 stype 0x0F#6
  | .synci base off => iType 0x01#6 base 0x1F#5 off
  | .tge rs rt code => tType rs rt code 0x30#6
  | .tgeu rs rt code => tType rs rt code 0x31#6
  | .tlt rs rt code => tType rs rt code 0x32#6
  | .tltu rs rt code => tType rs rt code 0x33#6
  | .teq rs rt code => tType rs rt code 0x34#6
  | .tne rs rt code => tType rs rt code 0x36#6
  | .tgei rs imm => iType 0x01#6 rs 0x08#5 imm
  | .tgeiu rs imm => iType 0x01#6 rs 0x09#5 imm
  | .tlti rs imm => iType 0x01#6 rs 0x0A#5 imm
  | .tltiu rs imm => iType 0x01#6 rs 0x0B#5 imm
  | .teqi rs imm => iType 0x01#6 rs 0x0C#5 imm
  | .tnei rs imm => iType 0x01#6 rs 0x0E#5 imm
  | .syscall code => cType 0x00#6 code 0x0C#6
  | .brk code => cType 0x00#6 code 0x0D#6
  | .sdbbp code => cType 0x1C#6 code 0x3F#6
  | .mfc0 rt rd sel => mType 0x00#5 rt rd sel
  | .mtc0 rt rd sel => mType 0x04#5 rt rd sel
  | .rdpgpr rd rt => rType 0x10#6 0x0A#5 rt rd 0#5 0x00#6
  | .wrpgpr rd rt => rType 0x10#6 0x0E#5 rt rd 0#5 0x00#6
  | .di rt => rType 0x10#6 0x0B#5 rt 0x0C#5 0#5 0x00#6
  | .ei rt => rType 0x10#6 0x0B#5 rt 0x0C#5 0#5 0x20#6
  | .rdhwr rt rd => rType 0x1F#6 0#5 rt rd 0#5 0x3B#6
  | .tlbr => wType 0#19 0x01#6
  | .tlbwi => wType 0#19 0x02#6
  | .tlbwr => wType 0#19 0x06#6
  | .tlbp => wType 0#19 0x08#6
  | .eret => wType 0#19 0x18#6
  | .deret => wType 0#19 0x1F#6
  | .wait code => wType code 0x20#6
  | .cop1 rest => jType 0x11#6 rest
  | .cop2 rest => jType 0x12#6 rest
  | .cop1x rest => jType 0x13#6 rest
  | .lwc1 rest => jType 0x31#6 rest
  | .lwc2 rest => jType 0x32#6 rest
  | .ldc1 rest => jType 0x35#6 rest
  | .ldc2 rest => jType 0x36#6 rest
  | .swc1 rest => jType 0x39#6 rest
  | .swc2 rest => jType 0x3A#6 rest
  | .sdc1 rest => jType 0x3D#6 rest
  | .sdc2 rest => jType 0x3E#6 rest
  | .movci rest => cType 0x00#6 rest 0x01#6

/-- The instruction the decoder reads from a word of opcode_table.json: bits of `w` above `nbits` are 0, the word is
laid out in the default little-endian order (R101, D1) and assembled again before it is decoded. -/
def decodeTableWord (nbits w : Nat) : Option Instr :=
  decode (assemble false (split false 4 (BitVec.ofNat 32 (w % 2 ^ nbits))))

end Sys2Proof
end

