-- ==== Sys2Proof/Machine/Levels.lean ====
section
/-! DEFINITION. The levels devices compute from their registers: status values, interrupt requests to the INTC, DMA requests,
and the INTC's request to the core (61_platform.md R550, R551; 60_exceptions.md R480 to R482). -/

namespace Sys2Proof.Machine

/-! ### UART (64_peripherals.md R749 to R756) -/

/-- UFCR.FME: FIFO mode. -/
def Uart.fifoMode (u : Uart) : Bool := u.ufcr.getLsbD 0
/-- UFCR.DME. -/
def Uart.dmaMode (u : Uart) : Bool := u.ufcr.getLsbD 3
/-- Room of the receive and of the transmit queue (R744). -/
def Uart.capacity (u : Uart) : Nat := if u.fifoMode then 16 else 1
/-- R750: the receive trigger level. -/
def Uart.trigger (u : Uart) : Nat :=
  match (u.ufcr.extractLsb' 6 2).toNat with
  | 0 => 1
  | 1 => 4
  | 2 => 8
  | _ => 15
/-- Some error in an entry of the receive queue. -/
def RxEntry.bad (e : RxEntry) : Bool := e.bi || e.fmer || e.parer
/-- ULSR.FIFOE (R752). -/
def Uart.fifoError (u : Uart) : Bool := u.fifoMode && u.rx.any RxEntry.bad
/-- ULSR.TDRQ (R752). -/
def Uart.tdrq (u : Uart) : Bool := if u.fifoMode then decide (u.tx.length ≤ 8) else u.tx.isEmpty
/-- ULSR.TEMP (R752). -/
def Uart.temp (u : Uart) : Bool := u.tx.isEmpty && u.tsr.isNone
/-- A status bit of the head entry. -/
def Uart.head (u : Uart) (f : RxEntry → Bool) : Bool := (u.rx.head?.map f).getD false
/-- R756: line status cause. -/
def Uart.lineStatus (u : Uart) : Bool := u.overrun || u.head RxEntry.bad || (u.dmaMode && u.fifoError)
/-- R756: data ready cause. -/
def Uart.dataReady (u : Uart) : Bool :=
  if u.fifoMode then decide (u.trigger ≤ u.rx.length) else decide (u.rx.length = 1)
/-- R756: timeout cause. -/
def Uart.timeout (u : Uart) : Bool := u.fifoMode && u.rxTimeout
/-- R756: `irq(u)`. -/
def Uart.irq (u : Uart) : Bool :=
  (u.uier.getLsbD 2 && u.lineStatus) || (u.uier.getLsbD 0 && u.dataReady) || (u.uier.getLsbD 4 && u.timeout) ||
  (u.uier.getLsbD 1 && u.tdrq) || (u.uier.getLsbD 3 && u.ccts)
/-- R756: `dma_tx(u)`. -/
def Uart.dmaTx (u : Uart) : Bool := u.fifoMode && u.dmaMode && !u.uier.getLsbD 1 && u.tdrq
/-- R756: `dma_rx(u)`. -/
def Uart.dmaRx (u : Uart) : Bool := u.fifoMode && u.dmaMode && u.dataReady && !u.fifoError

/-- R749: UIIR. Of the two causes of second priority it names data ready before the timeout (log entry 42). -/
def Uart.uiir (u : Uart) : Word :=
  (if u.fifoMode then 0xC0 else 0) |||
  (if u.uier.getLsbD 2 && u.lineStatus then 6
   else if u.uier.getLsbD 0 && u.dataReady then 4
   else if u.uier.getLsbD 4 && u.timeout then 0xC
   else if u.uier.getLsbD 1 && u.tdrq then 2
   else if u.uier.getLsbD 3 && u.ccts then 0
   else 1)

/-- R752: ULSR. -/
def Uart.ulsr (u : Uart) : Word :=
  flag u.fifoError 7 ||| flag u.temp 6 ||| flag u.tdrq 5 ||| flag (u.head RxEntry.bi) 4 ||| flag (u.head RxEntry.fmer) 3 |||
  flag (u.head RxEntry.parer) 2 ||| flag u.overrun 1 ||| flag (!u.rx.isEmpty) 0

/-- UART number `u`. -/
def State.uart (s : State) (u : BitVec 2) : Uart := s.dev.uart[u.toNat]'u.isLt

/-- Replace UART number `u`. -/
def State.setUart (s : State) (u : BitVec 2) (v : Uart) : State :=
  { s with dev := { s.dev with uart := s.dev.uart.set u.toNat v u.isLt } }

/-! ### OST, RTC (61_platform.md R560 to R572) -/

/-- OTCSRn of channel `n`. -/
def otcsr (n : BitVec 2) : Nat := Adr.OTCSR0 + 0x20 * n.toNat

/-- R564: UF and UIE of channel `n`. -/
def ostChannelIrq (s : State) (n : BitVec 2) : Bool := bit (s.ioGet (otcsr n)) 6 && bit (s.ioGet (otcsr n)) 5

/-- R560: the one request of the three channels. -/
def irqOst (s : State) : Bool := ostChannelIrq s 0 || ostChannelIrq s 1 || ostChannelIrq s 2

/-- R570: 1 Hz and alarm. -/
def irqRtc (s : State) : Bool :=
  let c := s.ioGet Adr.RTCCR
  (bit c 6 && bit c 5) || (bit c 4 && bit c 3)

/-! ### GPIO (63_platform_memory.md R710 to R719) -/

/-- The register of group `g` that corresponds to the group 0 register at `a0`. -/
def gpioAdr (a0 : Nat) (g : BitVec 2) : Nat := a0 + 0x30 * g.toNat

/-- Pins of a group whose pull is a pull-down (R719); the others pull up. -/
def pullDown (g : BitVec 2) : Word :=
  match g.toNat with
  | 0 => 0x00000DF0
  | 1 => 0x0DFF0000
  | _ => 0

/-- Pins of a group whose function 1 is an input or a bidirectional signal of the JZ4730 (R719). -/
def funcInput (g : BitVec 2) : Word :=
  match g.toNat with
  | 0 => 0x110317FF
  | 1 => 0x0700007F
  | 2 => 0x13026883
  | _ => 0x5E1E8000

/-- SELn of pin `n` (R715), or ITCFGn (R716): the 2-bit field of pin `n` in a low and a high register. -/
def pinField (s : State) (lowAdr : Nat) (n : Nat) : Nat :=
  if n < 16 then field (s.ioGet lowAdr) (2 * n) 2 else field (s.ioGet (lowAdr + 4)) (2 * (n - 16)) 2

/-- The mask of the pins of a group that satisfy `p`. -/
def pinMask (p : Nat → Bool) : Word := BitVec.ofNat 32 ((List.range 32).foldl (fun acc n => if p n then acc + 2 ^ n else acc) 0)

/-- HCR.HGP: the pins keep the state of the last HIBERNATE (61_platform.md R544); software that sets it with no HIBERNATE before
finds no pin driven (log entry 30). -/
def pinsHeld (s : State) : Bool := bit (s.ioGet Adr.HCR) 3

/-- HIBERNATE drove pin `n` of group `g`, and HCR.HGP still holds it (61_platform.md R544). -/
def pinHeld (s : State) (g : BitVec 2) (n : Nat) : Bool := pinsHeld s && bit (s.dev.gpio.held[g.toNat]'g.isLt) n

/-- R719: pin GP`k` has function 1, which connects it to its block, and is not held at an output level (log entry 30). -/
def pinConnected (s : State) (k : Nat) : Bool :=
  let g := BitVec.ofNat 2 (k / 32)
  pinField s (gpioAdr Adr.GPFSL0 g) (k % 32) == 1 && !pinHeld s g (k % 32)

/-- Pins of group `g` that the chip drives: GPIO outputs (R712: SEL = 00 and DIR = 1), or the outputs HIBERNATE holds. -/
def gpioOutputs (s : State) (g : BitVec 2) : Word :=
  if pinsHeld s then s.dev.gpio.held[g.toNat]'g.isLt
  else
    let dir := s.ioGet (gpioAdr Adr.GPDIR0 g)
    pinMask fun n => bit dir n && pinField s (gpioAdr Adr.GPFSL0 g) n == 0

/-- The levels of driven pins. -/
def gpioOutLevel (s : State) (g : BitVec 2) : Word :=
  if pinsHeld s then s.dev.gpio.heldLevel[g.toNat]'g.isLt else s.ioGet (gpioAdr Adr.GPD0 g)

/-- Pins whose GPD bit reads the pin level (R712): GPIO inputs and interrupt sources, and pins with an input or
bidirectional function. -/
def gpioReadsPin (s : State) (g : BitVec 2) : Word :=
  let dir := s.ioGet (gpioAdr Adr.GPDIR0 g)
  pinMask fun n =>
    match pinField s (gpioAdr Adr.GPFSL0 g) n with
    | 0 => !bit dir n
    | 1 => bit (funcInput g) n
    | _ => false

/-- Pins of group `g` whose level nothing fixes: not an output, not driven by the host, pull disabled (R714). -/
def gpioFloating (s : State) (g : BitVec 2) : Word :=
  ~~~(gpioOutputs s g ||| (s.dev.gpio.driven[g.toNat]'g.isLt) ||| s.ioGet (gpioAdr Adr.GPPE0 g))

/-- The pin levels of group `g` (R710, R712, R714); a floating pin takes its bit of `free`. -/
def gpioLevels (s : State) (g : BitVec 2) (free : Word) : Word :=
  let out := gpioOutputs s g
  let drv := (s.dev.gpio.driven[g.toNat]'g.isLt) &&& ~~~out
  let fl := gpioFloating s g
  (gpioOutLevel s g &&& out) ||| ((s.dev.gpio.level[g.toNat]'g.isLt) &&& drv) |||
  (~~~(out ||| drv ||| fl) &&& ~~~pullDown g) ||| (if fl = 0 then 0 else free &&& fl)

/-- The level of one pin as the machine last sees it; a floating pin's is free. -/
def gpioPin (s : State) (g : BitVec 2) (n : BitVec 5) : Bool := bit (gpioLevels s g s.draw) n.toNat

/-- A read of the level of a pin: a floating one has shown a free value. -/
def State.pinRead (s : State) (g : BitVec 2) (n : BitVec 5) : State := if bit (gpioFloating s g) n.toNat then s.drawn 1 else s

/-- R719: GP17, bit 17 of group 0, is the CTS_ pin of UART `n`. -/
def ctsConnected (s : State) (n : BitVec 2) : Bool := n == 3 && pinConnected s 17

/-- R754: the level of CTS_ at UART `n`: of its pin, or the constant of the host where no pin is connected (log entry 42). -/
def ctsPin (s : State) (n : BitVec 2) : Bool := if ctsConnected s n then gpioPin s 0 17 else Config.ctsLevel n

/-- UMSR.CTS of UART `n` (R754); with MDCE = 0 and LOOP = 0 it reads 0 (log entry 42). -/
def uartClear (s : State) (n : BitVec 2) : Bool :=
  let u := s.uart n
  if u.umcr.getLsbD 4 then u.umcr.getLsbD 1 else u.umcr.getLsbD 7 && !ctsPin s n

/-- R754: UMSR of UART `n`. -/
def umsr (s : State) (n : BitVec 2) : Word := flag (uartClear s n) 4 ||| flag (s.uart n).ccts 0

/-- R719: GP81, bit 17 of group 2, is the NAND ready pin RB_; a chip that boots from NAND uses it at once (N59, log entry 41). -/
def rbConnected (s : State) : Bool := pinConnected s 81 || s.params.bootSel.getLsbD 3

/-- R670: NFCSR.RB: the level of RB_, ready where the pin is not connected (log entry 41). -/
def nandReadyBit (s : State) : Bool := !rbConnected s || gpioPin s 2 17

/-- Pins of group `g` configured as interrupt sources (R718). -/
def gpioSources (s : State) (g : BitVec 2) : Word :=
  let dir := s.ioGet (gpioAdr Adr.GPDIR0 g)
  let ie := s.ioGet (gpioAdr Adr.GPIE0 g)
  pinMask fun n => bit ie n && !bit dir n && pinField s (gpioAdr Adr.GPFSL0 g) n == 0

/-- R718: GPIRQ of group `g`: levels of level-triggered pins, latched edges of the others; a latched edge outlasts a time in which
its pin is no interrupt source (log entry 45). -/
def gpioIrqFlags (s : State) (g : BitVec 2) : Word :=
  if s.ioGet (gpioAdr Adr.GPIE0 g) = 0 then 0
  else
    let lv := gpioLevels s g s.draw
    let latched := s.ioGet (gpioAdr Adr.GPIRQ0 g)
    gpioSources s g &&&
      pinMask fun n =>
        match pinField s (gpioAdr Adr.GPITL0 g) n with
        | 0 => !bit lv n
        | 1 => bit lv n
        | _ => bit latched n

/-- R718: the request of group `g`. -/
def irqGpio (s : State) (g : BitVec 2) : Bool := gpioIrqFlags s g &&& ~~~s.ioGet (gpioAdr Adr.GPIM0 g) != 0

/-! ### SSI, SCC, KBC (64_peripherals.md R780, R781, R791, R798) -/

/-- TTRG and RTRG codes (R779). -/
def ssiTrigger (code : Nat) : Nat :=
  match code with
  | 0 => 1
  | 1 => 4
  | 2 => 8
  | _ => 14

/-- R780: SSISR. TFF counts 16 characters in Microwire format 2 too (log entry 22). -/
def ssisr (s : State) : Word :=
  let d := s.dev.ssi
  let c1 := s.ioGet Adr.SSICR1
  BitVec.ofNat 32 (d.tx.length * 2 ^ 13 + d.rx.length * 2 ^ 8) ||| flag (!d.busy && !d.interval) 7 ||| flag d.busy 6 |||
  flag (decide (16 ≤ d.tx.length)) 5 ||| flag d.rx.isEmpty 4 ||| flag (decide (d.tx.length ≤ ssiTrigger (field c1 10 2))) 3 |||
  flag (decide (ssiTrigger (field c1 8 2) ≤ d.rx.length)) 2 ||| (s.ioGet Adr.SSISR &&& 3)

/-- R781: `irq_ssi`. -/
def irqSsi (s : State) : Bool :=
  let c0 := s.ioGet Adr.SSICR0
  let sr := ssisr s
  (bit sr 3 && bit c0 14) || (bit sr 1 && bit c0 12) || (bit sr 2 && bit c0 13) || (bit sr 0 && bit c0 11)

/-- SCCCR.TRIG: 3 means 14; the other levels are lost (R791). -/
def sccLevel (s : State) : Nat :=
  let code := (s.ioGet Adr.SCCCR).extractLsb' 16 2
  if code = 3 then 14 else Config.sccTrigger code

/-- R791: SCCSR: TFTG follows the FIFO in transmission and RFTG in reception; both are 0 in the other direction and while SCCE = 0
(log entry 23). -/
def sccsr (s : State) : Word :=
  let trs := bit (s.ioGet Adr.SCCCR) 30
  let n := s.dev.scc.fifo.length
  (s.ioGet Adr.SCCSR &&& 0x9C91) |||
  (if bit (s.ioGet Adr.SCCCR) 31 then flag (trs && decide (n ≤ sccLevel s)) 9 ||| flag (!trs && decide (sccLevel s ≤ n)) 8
   else 0)

/-- R791: the OR of each status bit and its enable. -/
def irqScc (s : State) : Bool :=
  let c := s.ioGet Adr.SCCCR
  let r := sccsr s
  (bit r 9 && bit c 13) || (bit r 8 && bit c 12) || (bit r 7 && bit c 11) || (bit r 11 && bit c 10) || (bit r 0 && bit c 9) ||
  (bit r 10 && bit c 8) || (bit r 4 && bit c 7) || (bit r 12 && bit c 6)

/-- R797: KCSR. INF is 0 while KCLK is held low: keyboard disabled or output buffer full. -/
def kcsr (s : State) : Word :=
  let k := s.dev.kbc
  flag k.per 7 ||| flag k.tot 6 ||| flag k.mof 5 ||| flag (!(k.cmdByte.getLsbD 4 || k.otf)) 4 ||| flag k.ad2 3 |||
  flag (k.cmdByte.getLsbD 2) 2 ||| flag k.itf 1 ||| flag k.otf 0

/-- R798: the request. -/
def irqKbc (s : State) : Bool :=
  let k := s.dev.kbc
  (k.otf && k.cmdByte.getLsbD 0) || (k.otf && k.mof && k.cmdByte.getLsbD 1)

/-! ### DMAC (63_platform_memory.md R691 to R697) -/

/-- The register of channel `n` that corresponds to the channel 0 register at `a0`. -/
def dmaAdr (a0 n : Nat) : Nat := a0 + 0x20 * n

/-- DCSn of channel `n`. -/
def dcs (s : State) (n : Nat) : Word := s.ioGet (dmaAdr Adr.DCS0 n)

/-- R694: DIRQP. -/
def dirqp (s : State) : Word :=
  pinMask fun i => decide (10 ≤ i) && decide (i ≤ 15) && (dcs s (15 - i) &&& 0x1C != 0)

/-- R694: some channel ended with TIE set, or has an address error. -/
def irqDmac (s : State) : Bool :=
  (List.range 6).any fun n => (bit (dcs s n) 3 && bit (dcs s n) 1) || bit (dcs s n) 4

/-! ### UDC, LCD, CIM, Ethernet (65_peripherals_bus_masters.md) -/

/-- R881: `irq_udc`. -/
def irqUdc (s : State) : Bool :=
  (s.ioGet Adr.UIPR &&& ~~~s.ioGet Adr.UIMR != 0) || (s.ioGet Adr.UDIPR &&& ~~~s.ioGet Adr.UDIMR != 0)

/-- R894: `irq_lcd`. -/
def irqLcd (s : State) : Bool :=
  let st := s.ioGet Adr.LCDSTATE
  let c := s.ioGet Adr.LCDCTRL
  (bit st 7 && !bit c 7) || (bit st 5 && !bit c 13) || (bit st 4 && !bit c 12) || (bit st 3 && !bit c 11) ||
  (bit st 2 && !bit c 10) || (bit st 1 && !bit c 9) || (bit st 0 && !bit c 8)

/-- R902: the RXFIFO trigger value. -/
def cimTrigger (s : State) : Nat := 4 * (field (s.ioGet Adr.CIMCR) 4 3 + 1)

/-- R903: CIMST. -/
def cimst (s : State) : Word :=
  (s.ioGet Adr.CIMST &&& 0x79) ||| flag (decide (cimTrigger s ≤ s.dev.cim.rx.length)) 2 ||| flag s.dev.cim.rx.isEmpty 1

/-- R906: `irq_cim`. -/
def irqCim (s : State) : Bool :=
  let st := cimst s
  let c := s.ioGet Adr.CIMCR
  (bit st 2 && bit c 9) || (bit st 3 && bit c 8) || (bit st 6 && bit c 12) || (bit st 5 && bit c 11) ||
  (bit st 4 && bit c 10) || (bit st 0 && bit c 13)

/-- R915: `irq_eth`, with R922's `pmb_irq`. -/
def irqEth (s : State) : Bool :=
  let sr := s.ioGet Adr.MAC_SR
  let ier := s.ioGet Adr.MAC_IER
  (bit ier 16 && (sr &&& ier &&& 0x4045 != 0)) || (bit ier 15 && (sr &&& ier &&& 0x27AA != 0)) ||
  (s.ioGet Adr.MAC_PMBR &&& 0x60 != 0)

/-! ### AIC, MSC (66_peripherals_audio_card.md) -/

/-- R931, R935: AICSR. -/
def aicsr (s : State) : Word :=
  let f := s.ioGet Adr.AICFR
  let d := s.dev.aic
  BitVec.ofNat 32 (d.rx.length * 2 ^ 24 + d.tx.length * 2 ^ 8) ||| (s.ioGet Adr.AICSR &&& 0x60) |||
  flag (decide (field f 12 4 + 1 ≤ d.rx.length)) 4 ||| flag (decide (d.tx.length ≤ field f 8 4 + 1)) 3

/-- R938: `irq_aic`. -/
def irqAic (s : State) : Bool :=
  let sr := aicsr s
  let c := s.ioGet Adr.AICCR
  let a := s.ioGet Adr.ACSR
  let c2 := s.ioGet Adr.ACCR2
  (bit sr 4 && bit c 4) || (bit sr 3 && bit c 3) || (bit sr 5 && bit c 5) || (bit sr 6 && bit c 6) ||
  (bit a 16 && bit c2 16) || (bit a 17 && bit c2 17) || (bit a 18 && bit c2 18)

/-- R942: MSC_STAT; bits 10, 7 and 6 follow the data FIFO. -/
def mscStat (s : State) : Word :=
  let n := s.dev.msc.fifo.length
  (s.ioGet Adr.MSC_STAT &&& 0xFB3F) ||| flag (decide (15 ≤ n)) 10 ||| flag (decide (16 ≤ n)) 7 ||| flag (decide (n = 0)) 6

/-- R945: `tx_req`. -/
def mscTxReq (s : State) : Bool := s.dev.msc.transfer == .write && decide (s.dev.msc.fifo.length < 8)

/-- R945: `rx_req`. -/
def mscRxReq (s : State) : Bool :=
  s.dev.msc.transfer == .read && (decide (8 ≤ s.dev.msc.fifo.length) || (s.dev.msc.lastRead && !s.dev.msc.fifo.isEmpty))

/-- MSC_CMDAT.DMA_EN. -/
def mscDmaEn (s : State) : Bool := bit (s.ioGet Adr.MSC_CMDAT) 8

/-- R945: MSC_IREG. -/
def mscIreg (s : State) : Word :=
  (s.ioGet Adr.MSC_IREG &&& 0x87) ||| flag (mscTxReq s && !mscDmaEn s) 6 ||| flag (mscRxReq s && !mscDmaEn s) 5

/-- R945: `irq_msc`. -/
def irqMsc (s : State) : Bool := mscIreg s &&& ~~~s.ioGet Adr.MSC_IMASK &&& 0xE7 != 0

/-! ### DMA requests (R693, R756, R781, R938, R945) -/

/-- R719: the pin of DREQ`ch` reaches the DMAC: DREQ0 is GP12, and the tables name no pin of DREQ1 (log entries 41, 43). -/
def dreqConnected (s : State) (ch : Nat) : Bool := ch != 0 || pinConnected s 12

/-- R693: the level of DREQ`ch`: of GP12, or of DREQ1. -/
def dreqLevel (s : State) (ch : Nat) : Bool := if ch = 0 then gpioPin s 0 12 else s.dev.dma.dreq1

/-- Whether the device behind request type `rt` asks for channel `ch` (R693, R696). Types 4, 5, 10 and 11 name blocks
without registers, which never ask. OST channel 2 asks while OTCSR2.UF is 1 (log entry 20); an unconnected DREQ pin never asks
(log entry 43). -/
def dmaRequest (s : State) (ch rt : Nat) : Bool :=
  match rt with
  | 0 =>
    if (ch = 0 ∨ ch = 1) ∧ dreqConnected s ch then
      match field (dcs s ch) 28 2 with
      | 0 => !dreqLevel s ch
      | 2 => dreqLevel s ch
      | _ => s.dev.dma.dreqEdge.getLsbD ch
    else false
  | 8 => true
  | 14 => (s.uart 3).dmaTx
  | 15 => (s.uart 3).dmaRx
  | 16 => (s.uart 2).dmaTx
  | 17 => (s.uart 2).dmaRx
  | 18 => (s.uart 1).dmaTx
  | 19 => (s.uart 1).dmaRx
  | 20 => (s.uart 0).dmaTx
  | 21 => (s.uart 0).dmaRx
  | 22 => bit (ssisr s) 3 && !bit (s.ioGet Adr.SSICR0) 14
  | 23 => bit (ssisr s) 2 && !bit (s.ioGet Adr.SSICR0) 13
  | 24 => bit (s.ioGet Adr.AICCR) 14 && bit (aicsr s) 3
  | 25 => bit (s.ioGet Adr.AICCR) 15 && bit (aicsr s) 4
  | 26 => mscDmaEn s && mscTxReq s
  | 27 => mscDmaEn s && mscRxReq s
  | 28 => bit (s.ioGet Adr.OTCSR2) 6
  | _ => false

/-! ### INTC and the core's interrupt inputs -/

/-- The request of each source (R741). I2C and UHC raise none (R772, R870; log entry 25). -/
def sourceLevel (s : State) : IrqSource → Bool
  | .ost => irqOst s
  | .rtc => irqRtc s
  | .gpio g => irqGpio s g
  | .uart u => (s.uart u).irq
  | .i2c => false
  | .ssi => irqSsi s
  | .scc => irqScc s
  | .kbc => irqKbc s
  | .dmac => irqDmac s
  | .udc => irqUdc s
  | .lcd => irqLcd s
  | .cim => irqCim s
  | .eth => irqEth s
  | .aic => irqAic s
  | .msc => irqMsc s

/-- Every source. -/
def allSources : List IrqSource :=
  [.ost, .rtc, .gpio 0, .gpio 1, .gpio 2, .gpio 3, .uart 0, .uart 1, .uart 2, .uart 3, .i2c, .ssi, .scc, .kbc, .dmac, .udc,
   .lcd, .cim, .eth, .aic, .msc]

/-- The ICSR bits of the sources in a list. -/
def requestBits (s : State) : List IrqSource → Word
  | [] => 0
  | d :: ds => if sourceLevel s d then one (Config.intcBit d).toNat ||| requestBits s ds else requestBits s ds

/-- R551: ICSR. -/
def icsr (s : State) : Word := requestBits s allSources

/-- R551: ICPR. -/
def icpr (s : State) : Word := icsr s &&& ~~~s.ioGet Adr.ICMR

/-- R482: the INTC's request, hardware interrupt 0. -/
def irqLine (s : State) : Bool := icpr s != 0

/-- R42, R481: Cause as it reads, with the hardware lines in IP[7:2]. -/
def causeRead (s : State) : Word := s.cp0.cause ||| flag (irqLine s) 10

/-- `Cause.IP and Status.IM`. -/
def enabledRequests (s : State) : Word := causeRead s &&& s.cp0.status &&& 0xFF00

/-- R480: the interrupt condition, with DCR.IntE (62_ejtag.md R633, log entry 13). -/
def interruptDue (s : State) : Bool :=
  s.ie && !s.exl && !s.erl && !s.dm && bit s.drseg.dcr 4 && (enabledRequests s != 0)

/-- The largest i in 0..7 with bit `8 + i` of `w` set; 0 if there is none. -/
def highestRequest (w : Word) : Nat :=
  (List.range 8).foldl (fun acc i => if bit w (8 + i) then i else acc) 0

/-- IntCtl.VS. -/
def State.vs (s : State) : Nat := field s.cp0.intCtl 5 5

/-- R40, U7: VS is one of the legal codes. -/
def vsLegal (v : Nat) : Bool := v == 0 || v == 1 || v == 2 || v == 4 || v == 8 || v == 16

/-- R470, R475: the offset of an interrupt. -/
def interruptOffset (s : State) : Word :=
  if bit s.cp0.cause 23 then
    if !s.bev && s.vs != 0 then 0x200 + BitVec.ofNat 32 (highestRequest (enabledRequests s) * (s.vs * 32)) else 0x200
  else 0x180

/-- R485: taking an interrupt; a vectored one with a reserved VS is refused (U7). -/
def takeInterrupt (s : State) : Out :=
  if bit s.cp0.cause 23 && !s.bev && !vsLegal s.vs then .refused .reservedVectorSpacing
  else raise (.int (interruptOffset s)) s

end Sys2Proof.Machine
end

