-- ==== Sys2Proof/Machine/DevPlatform.lean ====
section
/-! DEFINITION. CPM, INTC, OST, RTC, WDT and GPIO: register reads and writes with side effects, and the events that reach them
(61_platform.md, 63_platform_memory.md section 6). A read answers the value and the state after it. -/

namespace Sys2Proof.Machine

/-- Store the bits of `mask` of `v` in the register at `a`, keep the others. -/
def plainWrite (a : Nat) (mask v : Word) (s : State) : State := s.ioSet a (masked mask (s.ioGet a) v)

/-- A register whose bits software can only clear: `R <- R and v` on the bits of `clear`, plain store on those of
`mask`. -/
def andWrite (a : Nat) (mask clear v : Word) (s : State) : State :=
  s.ioSet a (masked mask (s.ioGet a) v &&& (v ||| ~~~clear))

/-- A read without side effect. -/
def plainRead (a : Nat) (s : State) : Word × State := (s.ioGet a, s)

/-- A read of a free value. -/
def freeRead (s : State) : Word × State := (s.draw, s.drawn 1)

/-! ### CPM -/

/-- The divider of a division code, 0 for the reserved ones (R534). -/
def divider (code : Nat) : Nat :=
  match code with
  | 0 => 1
  | 1 => 2
  | 2 => 3
  | 3 => 4
  | 4 => 6
  | 5 => 8
  | 6 => 12
  | 7 => 16
  | 8 => 24
  | 9 => 32
  | _ => 0

/-- R534, R539, U27: the division codes of CPCCR0 are legal and keep the ratio constraints. -/
def clockRatioOk (c : Word) : Bool :=
  let dc := divider (field c 0 4)
  let dh := divider (field c 4 4)
  let dp := divider (field c 8 4)
  let dm := divider (field c 16 4)
  dc != 0 && dh != 0 && dp != 0 && dm != 0 && dh % dc == 0 && dh / dc != 24 && dh / dc != 32 &&
  (dm == dh || dm == 2 * dh) && dp % dh == 0 && dp % dm == 0

/-- R534: with CE = 1 new division codes take effect at once. -/
def writeCpccr0 (v : Word) (s : State) : Res Unit :=
  let s1 := plainWrite Adr.CPCCR0 0xFF5FFFFF v s
  if bit (s1.ioGet Adr.CPCCR0) 20 && !clockRatioOk (s1.ioGet Adr.CPCCR0) then .refused .clockRatio else .ok () s1

/-- R536: PLLS clears when PLLEN is written 0 or a divider changes; either makes the division codes of CPCCR0 take
effect (R534, CE), also while the PLL is off already (log entry 46). -/
def writeCppcr (v : Word) (s : State) : Res Unit :=
  let old := s.ioGet Adr.CPPCR
  let new := masked 0xFFFF03FF old v
  let change := old &&& 0xFFFF0000 != new &&& 0xFFFF0000 || !bit new 8
  let s1 := s.ioSet Adr.CPPCR (if change then setBit new 10 false else new)
  if change && !clockRatioOk (s.ioGet Adr.CPCCR0) then .refused .clockRatio else .ok () s1

/-- CPM register writes (R534 to R548, R590). -/
def writeCpm (a : Nat) (mask v : Word) (s : State) : Res Unit :=
  if a = Adr.CPCCR0 then writeCpccr0 v s
  else if a = Adr.CPPCR then writeCppcr v s
  else if a = Adr.RSR then .ok () (andWrite a 0 7 v s)
  else if a = Adr.HSR then .ok () (andWrite a 0 0xA3FF v s)
  else .ok () (plainWrite a mask v s)

/-- R536: the PLL has locked. -/
def pllLock (s : State) : State :=
  if bit (s.ioGet Adr.CPPCR) 8 then s.ioMod Adr.CPPCR (one 10) 0 else s

/-- R543: the bit of CDR that stops the clock of a block, if there is one, and closes its registers. Of the two bits of the AIC it
is PCLK's, bit 9; bit 18 stops the bit clock alone (log entry 44). -/
def Block.clockBit : Block → Option Nat
  | .udc => some 24
  | .cim => some 23
  | .kbc => some 22
  | .eth => some 21
  | .uart u => match u.toNat with
    | 0 => some 0
    | 1 => some 1
    | 2 => some 2
    | _ => some 20
  | .scc => some 14
  | .msc => some 13
  | .ssi => some 12
  | .pwm c => if c = 0 then some 10 else some 11
  | .aic => some 9
  | .i2c => some 8
  | .lcd => some 7
  | .uhc => some 6
  | .dmac => some 5
  | .ost => some 3
  | .cpm => none
  | .intc => none
  | .rtc => none
  | .wdt => none
  | .gpio => none
  | .sba => none
  | .emc => none

/-- The clock of block `b` runs as far as CDR says. -/
def clockOn (s : State) (b : Block) : Bool :=
  match b.clockBit with
  | none => true
  | some i => !bit (s.ioGet Adr.CDR) i

/-- The buses and the devices on them run (R545, R549): in SLEEP and HIBERNATE they do not. -/
def busRuns (s : State) : Bool := s.powerMode == .normal || s.powerMode == .idle

/-- Device `b` runs. -/
def deviceRuns (s : State) (b : Block) : Bool := busRuns s && clockOn s b

/-! ### INTC -/

/-- R551. -/
def readIntc (a : Nat) (s : State) : Word × State :=
  if a = Adr.ICSR then (icsr s, s) else if a = Adr.ICPR then (icpr s, s) else plainRead a s

/-- R551: ICMSR sets, ICMCR clears mask bits. -/
def writeIntc (a : Nat) (mask v : Word) (s : State) : State :=
  if a = Adr.ICMSR then s.ioMod Adr.ICMR v 0
  else if a = Adr.ICMCR then s.ioMod Adr.ICMR 0 v
  else plainWrite a mask v s

/-! ### OST -/

/-- OTCNTn, OTDRn, OTCRDn of channel `n`. -/
def otcnt (n : BitVec 2) : Nat := Adr.OTCNT0 + 0x20 * n.toNat
/-- OTDRn -/
def otdr (n : BitVec 2) : Nat := Adr.OTDR0 + 0x20 * n.toNat
/-- OTCRDn -/
def otcrd (n : BitVec 2) : Nat := Adr.OTCRD0 + 0x20 * n.toNat

/-- OTCSRn.CKC. -/
def ckc (s : State) (n : BitVec 2) : Nat := field (s.ioGet (otcsr n)) 0 3

/-- OTER.OTEn. -/
def ostEnabled (s : State) (n : BitVec 2) : Bool := bit (s.ioGet Adr.OTER) n.toNat

/-- The OST channel a register address belongs to. -/
def ostChannel (a : Nat) : BitVec 2 := BitVec.ofNat 2 ((a - Adr.OTDR0) / 0x20)

/-- R565: a read of OTCNTn; with an asynchronous clock the value is free, SF is set and OTCRDn latched. -/
def readOst (a : Nat) (s : State) : Word × State :=
  let n := ostChannel a
  if a = otcnt n && (ckc s n == 4 || ckc s n == 5) then
    (s.draw, ((s.drawn 1).ioMod (otcsr n) (one 7) 0).ioSet (otcrd n) (s.ioGet (otcnt n)))
  else plainRead a s

/-- U28: some enabled channel has a reserved clock code. -/
def reservedCkc (s : State) : Bool := ([0, 1, 2] : List (BitVec 2)).any fun n => ostEnabled s n && decide (6 ≤ ckc s n)

/-- R563: the counter of channel `n` is clocked by RTCCLK or 3.6864M. -/
def ostAsync (s : State) (n : BitVec 2) : Bool := ckc s n == 4 || ckc s n == 5

/-- R563: the write at `a` makes channel `n` switch to another clock, or synchronise a write of OTCNT: SF is set. A reserved CKC
selects no clock (log entry 21). -/
def ostSyncStarts (a : Nat) (n : BitVec 2) (before after : State) : Bool :=
  (a == otcsr n && ckc before n != ckc after n && decide (ckc after n < 6)) || (a == otcnt n && ostAsync after n)

/-- R562, R563. -/
def writeOst (a : Nat) (mask v : Word) (s : State) : Res Unit :=
  let n := ostChannel a
  let s1 := if a = otcsr n then andWrite a 0x27 0x40 v s else plainWrite a mask v s
  let s2 := if ostSyncStarts a n s s1 then s1.ioMod (otcsr n) (one 7) 0 else s1
  if reservedCkc s2 then .refused .reservedCkc else .ok () s2

/-- R564: the selected clock of channel `n` runs (R543, R545). -/
def ostClockRuns (s : State) (n : BitVec 2) : Bool :=
  if ckc s n == 4 then s.powerMode != .hibernate
  else if ckc s n == 5 then busRuns s
  else deviceRuns s .ost

/-- R564: one tick of channel `n`. -/
def ostTick (n : BitVec 2) (s : State) : State :=
  if n.toNat < 3 && ostEnabled s n && ostClockRuns s n then
    if s.ioGet (otcnt n) = 0 then (s.ioSet (otcnt n) (s.ioGet (otdr n))).ioMod (otcsr n) (one 6) 0
    else s.ioSet (otcnt n) (s.ioGet (otcnt n) - 1)
  else s

/-- R565: SF clears. -/
def ostSync (n : BitVec 2) (s : State) : State := if n.toNat < 3 then s.ioMod (otcsr n) 0 (one 7) else s

/-! ### RTC, WDT -/

/-- R571: the alarm is enabled (AE), and RTCSAR = RTCSR. -/
def rtcMatch (s : State) : Bool := bit (s.ioGet Adr.RTCCR) 2 && s.ioGet Adr.RTCSR == s.ioGet Adr.RTCSAR

/-- R571: a register write has made `t` of `s`: AF is set when it makes the alarm match. A match that goes on does not set again an
AF that software has cleared (log entry 21). -/
def rtcAlarm (s t : State) : State := if !rtcMatch s && rtcMatch t then t.ioMod Adr.RTCCR (one 4) 0 else t

/-- R571 to R573: RTC register writes before the alarm. A write of RTCSR replaces one that has not landed, and only a reset clears
RTCGR.LOCK (log entry 21). -/
def writeRtcReg (a : Nat) (mask v : Word) (s : State) : State :=
  if a = Adr.RTCCR then andWrite a 0x2D 0x50 v s
  else if a = Adr.RTCSR then { s with dev := { s.dev with rtcWrite := some v } }
  else if a = Adr.RTCGR then (if bit (s.ioGet a) 31 then s else plainWrite a mask v s)
  else plainWrite a mask v s

/-- R571 to R573: a write of RTCCR or RTCSAR may make the alarm match. -/
def writeRtc (a : Nat) (mask v : Word) (s : State) : State := rtcAlarm s (writeRtcReg a mask v s)

/-- R572: a delayed write of RTCSR lands, and may make the alarm match (R571). -/
def rtcLand (s : State) : State :=
  match s.dev.rtcWrite with
  | none => s
  | some v => rtcAlarm s { s.ioSet Adr.RTCSR v with dev := { s.dev with rtcWrite := none } }

/-- R572: the 1 Hz tick; a delayed write lands no later (log entry 21). -/
def rtcTick (s0 : State) : State :=
  let s := rtcLand s0
  let c := s.ioGet Adr.RTCCR
  if bit c 0 then
    let t := s.ioGet Adr.RTCSR + 1
    (s.ioSet Adr.RTCSR t).ioMod Adr.RTCCR (one 6 ||| flag (bit c 2 && t == s.ioGet Adr.RTCSAR) 4) 0
  else s

/-- R581: WDTE can only be set. -/
def writeWdt (a : Nat) (mask v : Word) (s : State) : State :=
  if a = Adr.WDTCSR then s.ioMod a (v &&& 0x10) 0 else plainWrite a mask v s

/-- R582: RTCCLK at the watchdog. Its reset request replaces one that still waits (log entry 19). -/
def wdtTick (s : State) : State :=
  if bit (s.ioGet Adr.WDTCSR) 4 && s.powerMode != .hibernate then
    if s.ioGet Adr.WDTCNT = 0xFFFFFFFF then { s with resetReq := some .watchdog }
    else s.ioSet Adr.WDTCNT (s.ioGet Adr.WDTCNT + 1)
  else s

/-! ### GPIO -/

/-- The GPIO group of a register address. -/
def gpioGroup (a : Nat) : BitVec 2 := BitVec.ofNat 2 ((a - Adr.GPD0) / 0x30)

/-- R710, U36: bits of missing pins read as free values. -/
def gpioMissing (mask v : Word) (s : State) : Word × State :=
  if mask = 0xFFFFFFFF then (v, s) else ((v &&& mask) ||| (s.draw &&& ~~~mask), s.drawn 1)

/-- R712, R718: reads of GPD and GPIRQ; the others are plain. -/
def readGpio (a : Nat) (mask : Word) (s : State) : Word × State :=
  let g := gpioGroup a
  if a = gpioAdr Adr.GPD0 g then
    let pins := gpioReadsPin s g
    let v := (s.ioGet a &&& ~~~pins) ||| (gpioLevels s g s.draw &&& pins)
    gpioMissing mask v (if gpioFloating s g = 0 then s else s.drawn 1)
  else if a = gpioAdr Adr.GPIRQ0 g then gpioMissing mask (gpioIrqFlags s g) s
  else gpioMissing mask (s.ioGet a) s

/-- The hibernate wake-up bit of a pin, if it has one (R547). -/
def wakeBit (g : BitVec 2) (n : BitVec 5) : Option Nat :=
  if g = 3 ∧ n.toNat < 8 then some n.toNat
  else if g = 0 ∧ n = 16 then some 8
  else if g = 0 ∧ n = 17 then some 9
  else if g = 0 ∧ n = 21 then some 13
  else if g = 0 ∧ n = 23 then some 15
  else none

/-- R547, R549: an edge on a wake-up pin sets HSR and, in HIBERNATE, asks for the hibernate reset. -/
def wakePin (g : BitVec 2) (n : BitVec 5) (rising : Bool) (s : State) : State :=
  match wakeBit g n with
  | none => s
  | some i =>
    if bit (s.ioGet Adr.HER) i && bit (s.ioGet (if rising then Adr.HRER else Adr.HFER)) i then
      let s1 := s.ioMod Adr.HSR (one i) 0
      if s.powerMode == .hibernate then { s1 with resetReq := some .hibernate } else s1
    else s

/-- R750, R757: host events are possible: UFCR.UME = 1, a nonzero divisor, and the clock runs. -/
def uartLive (n : BitVec 2) (s : State) : Bool :=
  let u := s.uart n
  u.ufcr.getLsbD 4 && (u.udllr != 0 || u.udlhr != 0) && deviceRuns s (.uart n)

/-- R754, R757: the CTS_ pin of UART3 has changed: CCTS, with MDCE = 1. -/
def ctsChanged (s : State) : State :=
  let u := s.uart 3
  if uartLive 3 s && u.umcr.getLsbD 7 then s.setUart 3 { u with ccts := true } else s

/-- R692, R693: DREQ`n` has changed: a DMAC that runs (R543, R545) latches a falling or rising edge as DCSn.ERDM selects, whether or
not channel `n` is enabled and of type 0 (log entry 43). -/
def dreqEdge (n : Nat) (rising : Bool) (s : State) : State :=
  let d := s.dev.dma
  let wanted := match field (dcs s n) 28 2 with
    | 1 => !rising
    | 3 => rising
    | _ => false
  if wanted && deviceRuns s .dmac then
    { s with dev := { s.dev with dma := { d with dreqEdge := d.dreqEdge ||| (1#2 <<< n) } } }
  else s

/-- R719: a pin has changed to `level`: what its block sees of it, if it is connected. -/
def pinToBlock (g : BitVec 2) (n : BitVec 5) (level : Bool) (s : State) : State :=
  if g = 0 && n = 17 then (if ctsConnected s 3 then ctsChanged s else s)
  else if g = 0 && n = 12 then (if dreqConnected s 0 then dreqEdge 0 level s else s)
  else s

/-- R718, R719: what a level change of a pin does. -/
def pinChanged (g : BitVec 2) (n : BitVec 5) (before after : Bool) (s : State) : State :=
  if before == after then s
  else
    let s1 := pinToBlock g n after (wakePin g n after s)
    let cfg := pinField s (gpioAdr Adr.GPITL0 g) n.toNat
    if bit (gpioSources s g) n.toNat && ((cfg == 2 && !after) || (cfg == 3 && after)) then
      s1.ioMod (gpioAdr Adr.GPIRQ0 g) (one n.toNat) 0
    else s1

/-- R718: what the level changes of the pins `k - 1` to 0 of a group do. -/
def pinsChanged (g : BitVec 2) (before after : Word) : Nat → State → State
  | 0, s => s
  | k + 1, s => pinsChanged g before after k (pinChanged g (BitVec.ofNat 5 k) (bit before k) (bit after k) s)

/-- R712, R718: the machine has gone from `s` to `t` by a change of its own configuration: pins of group `g` may have changed
their level. -/
def repin (g : BitVec 2) (s t : State) : State := pinsChanged g (gpioLevels s g s.draw) (gpioLevels t g t.draw) 32 t

/-- Every group. -/
def repinAll (s t : State) : State := repin 3 s (repin 2 s (repin 1 s (repin 0 s t)))

/-- R718: writing 1 to GPIRQ clears a latched edge; the other registers are plain, and what they make of the pins may be an
edge. -/
def writeGpio (a : Nat) (mask v : Word) (s : State) : State :=
  if a = gpioAdr Adr.GPIRQ0 (gpioGroup a) then s.ioMod a 0 (v &&& mask)
  else repin (gpioGroup a) s (plainWrite a mask v s)

/-- CPM register writes; the pins that HCR.HGP releases may change their level (R544). -/
def writeCpmPins (a : Nat) (mask v : Word) (s : State) : Res Unit :=
  (writeCpm a mask v s).bind fun _ t => .ok () (if a = Adr.HCR then repinAll s t else t)

/-- Change how the host drives the pins of a group. -/
def State.setPins (s : State) (g : BitVec 2) (driven level : Word) : State :=
  { s with dev := { s.dev with gpio :=
    { s.dev.gpio with driven := s.dev.gpio.driven.set g.toNat driven g.isLt,
                      level := s.dev.gpio.level.set g.toNat level g.isLt } } }

/-- The host drives a pin, or stops driving it. -/
def gpioHost (g : BitVec 2) (n : BitVec 5) (level : Option Bool) (s : State) : State :=
  let before := gpioPin s g n
  let drv := s.dev.gpio.driven[g.toNat]'g.isLt
  let lev := s.dev.gpio.level[g.toNat]'g.isLt
  let s1 := s.setPins g (setBit drv n.toNat level.isSome) (setBit lev n.toNat (level.getD false))
  pinChanged g n before (gpioPin s1 g n) s1

/-- R544: the pins of group `g` with a chip select function that HIBERNATE floats (`floats`) or drives: CS1_ to CS5_, GP83 to GP87,
as HCR.HZM says, PCE1_ and PCE2_, GP90 and GP93, as HCR.HZP says (log entry 30). -/
def hibernateSelects (s : State) (g : BitVec 2) (floats : Bool) : Word :=
  let hcr := s.ioGet Adr.HCR
  if g = 2 then
    pinMask fun n =>
      pinField s (gpioAdr Adr.GPFSL0 g) n == 1 &&
        ((decide (19 ≤ n ∧ n ≤ 23) && bit hcr 1 == floats) || ((n == 26 || n == 29) && bit hcr 2 == floats))
  else 0

/-- R544, R548: the pins of group `g` that the chip drives in HIBERNATE, to their HGSR bits: the GPIO outputs, with HCR.HGP = 1 from
before those already held, and the chip selects that do not float; no other pin with an output function (log entry 30). -/
def hibernateOutputs (s : State) (g : BitVec 2) : Word :=
  (gpioOutputs s g &&& ~~~hibernateSelects s g true) ||| hibernateSelects s g false

/-- R548: what entering HIBERNATE does to one group: HGSR goes into the data register, and the outputs are held. -/
def hibernateGroup (g : BitVec 2) (hgsr : Nat) (s : State) : State :=
  let out := hibernateOutputs s g
  let s1 := s.ioSet (gpioAdr Adr.GPD0 g) (s.ioGet hgsr)
  { s1 with dev := { s1.dev with gpio :=
    { s1.dev.gpio with held := s1.dev.gpio.held.set g.toNat out g.isLt,
                       heldLevel := s1.dev.gpio.heldLevel.set g.toNat (s.ioGet hgsr) g.isLt } } }

/-- R544, R548: entering HIBERNATE: the pins take their HIBERNATE levels, and HCR.HGP holds them. -/
def hibernatePins (s : State) : State :=
  let s1 := hibernateGroup 1 Adr.HGSR1 (hibernateGroup 0 Adr.HGSR0 s)
  (hibernateGroup 3 Adr.HGSR3 (hibernateGroup 2 Adr.HGSR2 s1)).ioMod Adr.HCR (one 3) 0

end Sys2Proof.Machine
end

