-- ==== Sys2Proof/Machine/DevMemory.lean ====
section
/-! DEFINITION. The registers of the EMC and of the DMAC, and the EMC's events (63_platform_memory.md sections 2 to 5). The
DMAC's transfers are in Dma.lean. -/

namespace Sys2Proof.Machine

/-! ### EMC -/

/-- R666: the bits of SMCRn.BW when the pins loaded them, which makes them read-only. -/
def bootBw (s : State) (a : Nat) : Word :=
  if (a = Adr.SMCR0 && !s.params.bootSel.getLsbD 3) || (a = Adr.SMCR3 && s.params.bootSel.getLsbD 3) then 0xC0 else 0

/-- R683: CMF is set where RTCNT equals RTCOR. -/
def refreshMatch (s : State) : State :=
  if s.ioGet Adr.RTCNT = s.ioGet Adr.RTCOR then s.ioMod Adr.EMC_RTCSR (one 7) 0 else s

/-- EMC register writes (R665 to R671, R681 to R684). NFCSR.ERST clears NFECC and reads 0; RTCSR.CMF is cleared by writing
0, and set by a write that makes RTCNT equal RTCOR; once cleared it stays 0 until the next tick or such a write (log entry
21). -/
def writeEmc (a : Nat) (mask v : Word) (s : State) : State :=
  if a = Adr.NFCSR then
    let s1 := plainWrite a 7 v s
    if bit v 3 then s1.ioSet Adr.NFECC 0 else s1
  else if a = Adr.EMC_RTCSR then andWrite a 0x07 0x80 v s
  else if a = Adr.RTCNT ∨ a = Adr.RTCOR then refreshMatch (plainWrite a mask v s)
  else plainWrite a (mask &&& ~~~bootBw s a) v s

/-- R683: one refresh clock; RTCNT clears on the tick after the match. -/
def refreshTick (s : State) : State :=
  if field (s.ioGet Adr.EMC_RTCSR) 0 3 != 0 && deviceRuns s .emc then
    let n := s.ioGet Adr.RTCNT
    let m := if n = s.ioGet Adr.RTCOR then 0 else (n + 1) &&& 0xFF
    refreshMatch (s.ioSet Adr.RTCNT m)
  else s

/-- R670: the NAND device drives RB_, GP81 (R719). -/
def nandReady (ready : Bool) (s : State) : State := gpioHost 2 17 (some ready) s

/-- R670: NFCSR.RB reads the pin; the other EMC registers are plain. -/
def readEmc (a : Nat) (s : State) : Word × State :=
  if a = Adr.NFCSR then (setBit (s.ioGet a) 7 (nandReadyBit s), if rbConnected s then s.pinRead 2 17 else s) else plainRead a s

/-- R673, U33: data through the NAND data space with ECC enabled leaves any value in NFECC. -/
def nandEcc (s : State) : State :=
  if bit (s.ioGet Adr.NFCSR) 2 then (s.drawn 1).ioSet Adr.NFECC (s.draw &&& 0xFFFFFF) else s

/-! ### DMAC -/

/-- R693, U35: reserved request types. -/
def dmaTypeReserved (rt : Nat) : Bool :=
  match rt with
  | 0 => false
  | 4 => false
  | 5 => false
  | 8 => false
  | 10 => false
  | 11 => false
  | _ => !(decide (14 ≤ rt) && decide (rt ≤ 28))

/-- DCSn.TSZ: bytes of a unit, 0 for the reserved codes (R692). -/
def dmaUnitBytes (c : Word) : Nat :=
  match field c 8 3 with
  | 0 => 4
  | 1 => 1
  | 2 => 2
  | 3 => 16
  | 4 => 32
  | _ => 0

/-- DCSn.SP (at 14) and DCSn.DP (at 12): bytes of a port access, 0 for the reserved code (R692). -/
def dmaPortBytes (c : Word) (lo : Nat) : Nat :=
  match field c lo 2 with
  | 0 => 4
  | 1 => 1
  | 2 => 2
  | _ => 0

/-- R697, U35: channel `n` is enabled with a reserved type or code. -/
def dmaReserved (s : State) (n : Nat) : Bool :=
  let c := dcs s n
  bit c 0 && (dmaTypeReserved (field (s.ioGet (dmaAdr Adr.DRT0 n)) 0 5) || dmaUnitBytes c == 0 || dmaPortBytes c 14 == 0 ||
    dmaPortBytes c 12 == 0)

/-- The channel a DMAC register belongs to. -/
def dmaChannel (a : Nat) : Nat := (a - Adr.DSA0) / 0x20

/-- Channel `n` starts over: its detection interval (RDIL) is over, and a unit under way is dropped. A latched DREQ edge stays (log
entry 43). -/
def State.restartDma (s : State) (n : Nat) : State :=
  let d := s.dev.dma
  let d1 := if d.cur = some n then { d with cur := none, buf := [], written := 0 } else d
  { s with dev := { s.dev with dma := { d1 with left := d1.left.setIfInBounds n 0 } } }

/-- R694: DIRQP follows DCSn; the other registers read as stored. -/
def readDmac (a : Nat) (s : State) : Word × State := if a = Adr.DIRQP then (dirqp s, s) else plainRead a s

/-- R691, R692, R695: AR, CT and HLT are cleared by writing 0; a write of DCSn makes its channel start over. -/
def writeDmac (a : Nat) (mask v : Word) (s : State) : Res Unit :=
  if a = Adr.DMAC then .ok () (andWrite a 0x301 0xC v s)
  else
    let n := dmaChannel a
    let s1 := if a = dmaAdr Adr.DCS0 n then (andWrite a 0xF8CFF783 0x1C v s).restartDma n else plainWrite a mask v s
    if dmaReserved s1 n then .refused .reservedDma else .ok () s1

/-- R692, R693: the host drives DREQ0, which is GP12 (R719), or DREQ1. -/
def dreqPin (ch : BitVec 1) (level : Bool) (s : State) : State :=
  if ch = 0 then gpioHost 0 12 (some level) s
  else if s.dev.dma.dreq1 == level then s
  else dreqEdge 1 level { s with dev := { s.dev with dma := { s.dev.dma with dreq1 := level } } }

/-- R697: the requesting device reports an error to a DMAC that runs. -/
def dmaHalt (ch : BitVec 3) (s : State) : State :=
  if ch.toNat < 6 && deviceRuns s .dmac then (s.ioMod (dmaAdr Adr.DCS0 ch.toNat) (one 2) 0).ioMod Adr.DMAC (one 3) 0 else s

/-- DTCn of channel `n`. -/
def dtc (n : Nat) : Nat := dmaAdr Adr.DTC0 n

/-- DTCn.TC. -/
def dmaCount (s : State) (n : Nat) : Nat := field (s.ioGet (dtc n)) 0 24

/-- DRTn.RT. -/
def dmaType (s : State) (n : Nat) : Nat := field (s.ioGet (dmaAdr Adr.DRT0 n)) 0 5

/-- R696: channel `n` is active. -/
def dmaActive (s : State) (n : Nat) : Bool :=
  let c := s.ioGet Adr.DMAC
  bit c 0 && (c &&& 0xC == 0) && bit (dcs s n) 0 && (dcs s n &&& 0x1C == 0) && dmaCount s n != 0

/-- R697: the device behind request type `rt` reports an error: the active channels that serve it halt (log entry 40). -/
def dmaDeviceError (rt : Nat) (s : State) : State :=
  ([0, 1, 2, 3, 4, 5] : List (BitVec 3)).foldl
    (fun t ch => if dmaActive s ch.toNat && dmaType s ch.toNat == rt then dmaHalt ch t else t) s

end Sys2Proof.Machine
end

