-- ==== Sys2Proof/Machine/DevSerial.lean ====
section
/-! DEFINITION. UART, PWM, I2C, SSI, SCC and KBC: register reads and writes with side effects, and the host events
(64_peripherals.md). -/

namespace Sys2Proof.Machine

/-- The low `n` bits of a free value. -/
def freeField (n : Nat) (s : State) : Word × State := (s.draw &&& fieldMask 0 n, s.drawn 1)

/-! ### UART -/

/-- ULCR.DLAB. -/
def Uart.dlab (u : Uart) : Bool := u.ulcr.getLsbD 7

/-- R745: URBR. -/
def readUrbr (n : BitVec 2) (s : State) : Word × State :=
  let u := s.uart n
  match u.rx with
  | [] => freeField 8 s
  | e :: es => (e.c.setWidth 32, s.setUart n { u with rx := es, rxTimeout := false })

/-- R752: what a read of ULSR clears. -/
def Uart.clearLine (u : Uart) : Uart :=
  match u.rx with
  | [] => { u with overrun := false }
  | e :: es => { u with overrun := false, rx := { e with bi := false, fmer := false, parer := false } :: es }

/-- R743 to R755: a read of UART `n` at offset `off`. ULCR reads back its bit SBK (log entry 42). -/
def readUart (n : BitVec 2) (off : Nat) (s : State) : Word × State :=
  let u := s.uart n
  match off with
  | 0x00 => if u.dlab then (u.udllr.setWidth 32, s) else readUrbr n s
  | 0x04 => ((if u.dlab then u.udlhr else u.uier).setWidth 32, s)
  | 0x08 => (u.uiir, s)
  | 0x0C => (u.ulcr.setWidth 32, s)
  | 0x10 => (u.umcr.setWidth 32, s)
  | 0x14 => (u.ulsr, s.setUart n u.clearLine)
  | 0x18 => (umsr s n, (if ctsConnected s n then s.pinRead 0 17 else s).setUart n { u with ccts := false })
  | 0x1C => (u.uspr.setWidth 32, s)
  | _ => (u.isr.setWidth 32, s)

/-- R746: UTHR; a byte written to a full queue is dropped. -/
def Uart.send (u : Uart) (b : Byte) : Uart := if u.tx.length < u.capacity then { u with tx := u.tx ++ [b] } else u

/-- R750: UFCR. -/
def Uart.setUfcr (u : Uart) (b : Byte) : Uart :=
  { u with
    ufcr := b &&& 0xD9,
    tx := (if b.getLsbD 2 then [] else u.tx),
    rx := (if b.getLsbD 1 then [] else u.rx),
    rxTimeout := u.rxTimeout && !b.getLsbD 1 }

/-- R743 to R755: what a write of UART `n` at offset `off` makes of it. -/
def Uart.write (u : Uart) (off : Nat) (b : Byte) : Uart :=
  match off with
  | 0x00 => if u.dlab then { u with udllr := b } else u.send b
  | 0x04 => if u.dlab then { u with udlhr := b } else { u with uier := b &&& 0x1F }
  | 0x08 => u.setUfcr b
  | 0x0C => { u with ulcr := b }
  | 0x10 => { u with umcr := b &&& 0x92 }
  | 0x1C => { u with uspr := b }
  | 0x20 => { u with isr := b &&& 0x1F }
  | _ => u

/-- A register write of UART `n`. -/
def writeUart (n : BitVec 2) (off : Nat) (v : Word) (s : State) : State := s.setUart n ((s.uart n).write off (v.setWidth 8))

/-- R757: a character of 5 + WLS bits. -/
def Uart.char (u : Uart) (c : Byte) : Byte := c &&& (0xFF#8 >>> (3 - (u.ulcr.extractLsb' 0 2).toNat))

/-- R757: Receive. A queue that FME = 0 has left with more than its capacity is full too (log entry 42). -/
def Uart.receive (u : Uart) (e : RxEntry) : Uart :=
  if u.rx.length < u.capacity then { u with rx := u.rx ++ [e], rxTimeout := false }
  else { u with overrun := true }

/-- R757: TxStart; the CTS_ pin must be low when modem control is on. -/
def uartTxStart (n : BitVec 2) (s : State) : State :=
  let u := s.uart n
  if uartLive n s && (u.tsr.isNone && (!u.umcr.getLsbD 7 || u.umcr.getLsbD 4 || uartClear s n)) then
    match u.tx with
    | [] => s
    | b :: bs => s.setUart n { u with tx := bs, tsr := some b }
  else s

/-- R757, R759: TxDone; UART0 is the console, where its TxD pin is connected (R719). -/
def uartTxDone (n : BitVec 2) (s : State) : State :=
  let u := s.uart n
  match u.tsr with
  | none => s
  | some b =>
    if uartLive n s then
      let c := u.char b
      if u.umcr.getLsbD 4 then s.setUart n (({ u with tsr := none }).receive ⟨c, false, false, false⟩)
      else
        let s1 := s.setUart n { u with tsr := none }
        if n = 0 && pinConnected s 127 then { s1 with console := c :: s1.console } else s1
    else s

/-- R719: the RxD pin of a UART is connected. -/
def uartRxConnected (n : BitVec 2) (s : State) : Bool :=
  match n.toNat with
  | 0 => pinConnected s 126
  | 1 => pinConnected s 24
  | 2 => pinConnected s 111
  | _ => pinConnected s 16

/-- R697: a character that arrives with an error, or is lost, in DMA mode is an error of the device to the DMAC: request types
21, 19, 17 and 15 serve the receivers. -/
def uartDmaError (n : BitVec 2) (e : RxEntry) (s : State) : State :=
  let u := s.uart n
  if u.fifoMode && u.dmaMode && (e.bad || decide (u.capacity ≤ u.rx.length)) then dmaDeviceError (21 - 2 * n.toNat) s else s

/-- R757: RxChar. -/
def uartRxChar (n : BitVec 2) (e : RxEntry) (s : State) : State :=
  let u := s.uart n
  if uartLive n s && !u.umcr.getLsbD 4 && uartRxConnected n s then
    (uartDmaError n e s).setUart n (u.receive { e with c := u.char e.c })
  else s

/-- R757: RxIdle. -/
def uartRxIdle (n : BitVec 2) (s : State) : State :=
  let u := s.uart n
  if uartLive n s && u.fifoMode && !u.rx.isEmpty then s.setUart n { u with rxTimeout := true } else s

/-- R757: CtsChange: the host drives the CTS_ pin of UART3, GP17 (R719), whose change may set CCTS (pinToBlock). The level at the
other UARTs is a constant (R754). -/
def uartCts (n : BitVec 2) (level : Bool) (s : State) : State := if n = 3 then gpioHost 0 17 (some level) s else s

/-! ### PWM -/

/-- PWMCTRc, PWMPERc, PWMDUTc. -/
def pwmAdr (a0 : Nat) (c : BitVec 1) : Nat := a0 + 0x1000 * c.toNat

/-- R766: one tick of PWCLK_PWM. PERIOD and DUTY count as they stand: what a write in the middle of a period does is the model's
choice (log entry 48). -/
def pwmTick (c : BitVec 1) (s : State) : State :=
  if bit (s.ioGet (pwmAdr Adr.PWMCTR0 c)) 7 && deviceRuns s (.pwm c) then
    let n := s.dev.pwm[c.toNat]'c.isLt
    let n' : BitVec 10 := if n = (s.ioGet (pwmAdr Adr.PWMPER0 c)).setWidth 10 then 0 else n + 1
    { s with dev := { s.dev with pwm := s.dev.pwm.set c.toNat n' c.isLt } }
  else s

/-- R766: the level of the PWM pin, which only the host sees, low while EN = 0. Either kind of shutdown (SD) takes effect at once
(log entry 48). -/
def pwmOut (c : BitVec 1) (s : State) : Bool :=
  let d := s.ioGet (pwmAdr Adr.PWMDUT0 c)
  bit (s.ioGet (pwmAdr Adr.PWMCTR0 c)) 7 && (bit d 10 || decide ((s.dev.pwm[c.toNat]'c.isLt).toNat < field d 0 10))

/-! ### I2C -/

/-- Replace the I2C state. -/
def State.setI2c (s : State) (d : I2c) : State := { s with dev := { s.dev with i2c := d } }

/-- A START or STOP is queued. -/
def I2c.queued (d : I2c) (c : I2cCond) : Bool := d.conds.contains c

/-- R771: software asks for a START or STOP, which goes behind those that wait. -/
def I2c.ask (d : I2c) (c : I2cCond) (on : Bool) : I2c := if on && !d.queued c then { d with conds := d.conds ++ [c] } else d

/-- R772: a byte to send is valid in I2CDR and not yet in the shifter: of the transfer under way, or of a START that waits. -/
def i2cByteWaits (s : State) : Bool :=
  let d := s.dev.i2c
  bit (s.ioGet Adr.I2CSR) 1 && (d.queued .start || (d.busy && (d.addr || !d.reading)))

/-- R771: I2CCR.STA and STO read 1 until the condition is sent; STX, BUSY and TEND follow the controller, which is not idle while
a byte waits to be sent (R772). -/
def readI2c (a : Nat) (s : State) : Word × State :=
  let d := s.dev.i2c
  if a = Adr.I2CCR then (s.ioGet a ||| flag (d.queued .start) 3 ||| flag (d.queued .stop) 2, s)
  else if a = Adr.I2CSR then
    ((s.ioGet a &&& 3) ||| flag (!d.conds.isEmpty) 4 ||| flag d.busy 3 ||| flag (d.shift.isNone && !i2cByteWaits s) 2, s)
  else plainRead a s

/-- R771: STA and STO can only be written with 1. Clearing I2CE drops no queued condition and no byte (log entry 25). -/
def writeI2c (a : Nat) (mask v : Word) (s : State) : State :=
  if a = Adr.I2CCR then
    (plainWrite a 0x13 v s).setI2c ((s.dev.i2c.ask .start (bit v 3)).ask .stop (bit v 2))
  else plainWrite a mask v s

/-- I2CCR.I2CE, with a running clock. Without I2CE the transfer stands still, and nothing of it is lost (log entry 25). -/
def i2cLive (s : State) : Bool := bit (s.ioGet Adr.I2CCR) 0 && deviceRuns s .i2c

/-- R772: the START condition is sent; STA and ACKF clear. -/
def i2cStart (s : State) : State :=
  let d := s.dev.i2c
  if i2cLive s && d.conds.head? == some .start && d.shift.isNone then
    (s.ioMod Adr.I2CSR 0 1).setI2c { d with conds := d.conds.tail, busy := true, addr := true, reading := false }
  else s

/-- R772: the controller copies I2CDR to its shifter and clears DRF; a byte that is valid while a START waits goes out after it
(log entry 25). -/
def i2cTake (s : State) : State :=
  let d := s.dev.i2c
  let v := s.ioGet Adr.I2CDR
  if i2cLive s && d.shift.isNone && i2cByteWaits s && !d.queued .start then
    (s.ioMod Adr.I2CSR 0 2).setI2c
      { d with shift := some (v.setWidth 8), reading := (if d.addr then bit v 0 else d.reading), addr := false }
  else s

/-- R772: the byte and its acknowledge bit have been transferred. -/
def i2cSent (nack : Bool) (s : State) : State :=
  let d := s.dev.i2c
  if i2cLive s && d.shift.isSome then
    (s.ioSet Adr.I2CSR (setBit (s.ioGet Adr.I2CSR) 0 nack)).setI2c { d with shift := none }
  else s

/-- R772: a byte has been received; DRF is set. -/
def i2cReceived (b : Byte) (s : State) : State :=
  let d := s.dev.i2c
  if i2cLive s && d.busy && d.reading && !d.addr && d.shift.isNone && !bit (s.ioGet Adr.I2CSR) 1 then
    (s.ioSet Adr.I2CDR (b.setWidth 32)).ioMod Adr.I2CSR 2 0
  else s

/-- R772: the STOP condition is sent, after the last byte of its transfer. -/
def i2cStop (s : State) : State :=
  let d := s.dev.i2c
  if i2cLive s && d.conds.head? == some .stop && d.shift.isNone && (d.queued .start || !i2cByteWaits s) then
    s.setI2c { d with conds := d.conds.tail, busy := false, addr := false, reading := false }
  else s

/-! ### SSI -/

/-- Replace the SSI state. -/
def State.setSsi (s : State) (d : Ssi) : State := { s with dev := { s.dev with ssi := d } }

/-- R777, R780: SSIDR pops the receive FIFO; an empty one gives any value. -/
def readSsi (a : Nat) (s : State) : Word × State :=
  if a = Adr.SSIDR then
    match s.dev.ssi.rx with
    | [] => freeField 17 s
    | c :: cs => (c.setWidth 32, s.setSsi { s.dev.ssi with rx := cs })
  else if a = Adr.SSISR then (ssisr s, s)
  else plainRead a s

/-- SSICR1.FMAT = 3: Microwire format 2 (R777). -/
def ssiMicrowire2 (s : State) : Bool := field (s.ioGet Adr.SSICR1) 20 2 == 3

/-- R777: a write of SSIDR in Microwire format 2: a command when the FIFO is empty, bit 16 marking a write command, or the
data of the write command before; nothing else finds room. -/
def Ssi.pushCommand (d : Ssi) (c : BitVec 17) : Ssi :=
  if d.wantData then { d with tx := d.tx ++ [c.setWidth 16 |>.setWidth 17], wantData := false }
  else if d.tx.isEmpty then { d with tx := [c], wantData := c.getLsbD 16 }
  else d

/-- R777: a write of SSIDR; with MULTS = 1 bit 16 is the GPC output from the write on, and in Microwire format 2 the command mark
as well. A full FIFO drops the character (log entry 22). -/
def ssiPush (v : Word) (s : State) : State :=
  let mults := bit (s.ioGet Adr.SSICR1) 22
  let d := if mults then { s.dev.ssi with gpc := bit v 16 } else s.dev.ssi
  let c : BitVec 17 := if mults then (v.setWidth 16).setWidth 17 else v.setWidth 17
  s.setSsi
    (if ssiMicrowire2 s then d.pushCommand (v.setWidth 17)
     else if d.tx.length < 16 then { d with tx := d.tx ++ [c] }
     else d)

/-- R777 to R780: TFLUSH and RFLUSH empty a FIFO and read 0; UNDR and OVER are cleared by writing 0. TFLUSH also ends a write
command of Microwire format 2 whose data has not gone out (log entry 22). -/
def writeSsi (a : Nat) (mask v : Word) (s : State) : State :=
  if a = Adr.SSIDR then ssiPush v s
  else if a = Adr.SSICR0 then
    let d := s.dev.ssi
    (plainWrite a mask v s).setSsi
      { d with tx := (if bit v 2 then [] else d.tx), wantData := d.wantData && !bit v 2,
               sendsData := d.sendsData && !bit v 2, rx := (if bit v 1 then [] else d.rx) }
  else if a = Adr.SSISR then andWrite a 0 3 v s
  else plainWrite a mask v s

/-- SSICR0.SSIE, with a running clock. -/
def ssiLive (s : State) : Bool := bit (s.ioGet Adr.SSICR0) 15 && deviceRuns s .ssi

/-- R779: a character of FLEN + 2 bits. -/
def ssiChar (s : State) (c : BitVec 17) : BitVec 17 := c &&& BitVec.ofNat 17 (2 ^ (field (s.ioGet Adr.SSICR1) 4 4 + 2) - 1)

/-- R778, R780: the received character, of FLEN + 2 bits, a command that LOOP brings back included (log entry 22), enters the
receive FIFO, or is lost with OVER. -/
def ssiReceive (c : BitVec 17) (s : State) : State :=
  let d := s.dev.ssi
  if bit (s.ioGet Adr.SSICR0) 0 then s
  else if d.rx.length < 16 then s.setSsi { d with rx := d.rx ++ [ssiChar s c] }
  else s.ioMod Adr.SSISR 1 0

/-- R778: reception goes on without transmission: RFINE = 1 and RFINC = 0. -/
def ssiReceiveOnly (s : State) : Bool := field (s.ioGet Adr.SSICR0) 8 2 == 2

/-- R778: reception has finished: RFINE = 1 and RFINC = 1. -/
def ssiReceiveDone (s : State) : Bool := field (s.ioGet Adr.SSICR0) 8 2 == 3

/-- SSICR1.UNFIN (R779). -/
def ssiUnfinished (s : State) : Bool := bit (s.ioGet Adr.SSICR1) 23

/-- SSICR0.LOOP (R781). -/
def ssiLoop (s : State) : Bool := bit (s.ioGet Adr.SSICR0) 10

/-- R777: in Microwire format 2 a write command and its data shift nothing in (log entry 22), unless LOOP = 1 brings each
transmitted character back (R781). -/
def ssiShiftsIn (out : BitVec 17) (s : State) : Bool :=
  !ssiReceiveDone s && (ssiLoop s || !(ssiMicrowire2 s && (out.getLsbD 16 || s.dev.ssi.sendsData)))

/-- R780: interval mode: IVLTM is not 0. -/
def ssiInterval (s : State) : Bool := field (s.ioGet Adr.SSIITR) 0 15 != 0

/-- R780: characters of a frame in interval mode: ICC + 1 in SPI format; in the others, where ICC does not count, one (log entry
22). -/
def ssiFrame (s : State) : Nat := if field (s.ioGet Adr.SSICR1) 20 2 = 0 then field (s.ioGet Adr.SSIICR) 0 3 + 1 else 1

/-- R780: in interval mode a frame is complete, so that an interval comes next. -/
def ssiFrameDone (s : State) : Bool :=
  ssiInterval s && s.dev.ssi.busy && decide (ssiFrame s ≤ s.dev.ssi.count) && !s.dev.ssi.sendsData

/-- R777 to R781: the character `out` is shifted out, and in its place `c`, or with LOOP = 1 `out` itself, shifted in. The first one
makes BUSY 1 and END 0 (log entry 22). -/
def ssiShift (out : BitVec 17) (rest : List (BitVec 17)) (c : BitVec 17) (s : State) : State :=
  let d := s.dev.ssi
  let s1 := s.setSsi
    { d with tx := rest, busy := true, interval := false, sendsData := ssiMicrowire2 s && !d.sendsData && out.getLsbD 16,
             count := d.count + 1 }
  if ssiShiftsIn out s then ssiReceive (if ssiLoop s then out else c) s1 else s1

/-- R778, R779: a character time with an empty transmit FIFO: with UNFIN = 1 a transfer under way underruns; a receive-only
transfer receives, unless LOOP leaves the pins idle. -/
def ssiStarve (c : BitVec 17) (s : State) : State :=
  let s1 := if ssiUnfinished s && s.dev.ssi.busy then s.ioMod Adr.SSISR 2 0 else s
  if ssiReceiveOnly s then
    let s2 := s1.setSsi { s1.dev.ssi with busy := true, interval := false, count := s1.dev.ssi.count + 1 }
    if ssiLoop s then s2 else ssiReceive c s2
  else s1

/-- R777 to R781: one character time, not between the end of a frame and its interval. -/
def ssiTransfer (c : BitVec 17) (s : State) : State :=
  if ssiLive s && !ssiFrameDone s then
    match s.dev.ssi.tx with
    | t :: ts => ssiShift t ts c s
    | [] => ssiStarve c s
  else s

/-- R778, R779: a transfer may end: nothing is left to send, UNFIN = 0, and reception does not go on. -/
def ssiMayEnd (s : State) : Bool := s.dev.ssi.tx.isEmpty && !ssiUnfinished s && !ssiReceiveOnly s

/-- R780: an interval begins behind a frame of interval mode, or the transfer ends. -/
def ssiIdle (interval : Bool) (s : State) : State :=
  if ssiLive s && (if interval then ssiFrameDone s else ssiMayEnd s) then
    s.setSsi { s.dev.ssi with busy := false, interval := interval, count := 0 }
  else s

/-! ### SCC -/

/-- Replace the SCC state. -/
def State.setScc (s : State) (d : Scc) : State := { s with dev := { s.dev with scc := d } }

/-- R791: SCCDR pops the FIFO, in transmission too (log entry 23); SCCFDR counts it. -/
def readScc (a : Nat) (s : State) : Word × State :=
  if a = Adr.SCCDR then
    match s.dev.scc.fifo with
    | [] => freeField 8 s
    | c :: cs => (c.setWidth 32, s.setScc { s.dev.scc with fifo := cs })
  else if a = Adr.SCCFDR then (BitVec.ofNat 32 s.dev.scc.fifo.length, s)
  else if a = Adr.SCCSR then (sccsr s, s)
  else plainRead a s

/-- R791: SCCDR pushes the FIFO, in reception too, and a full one drops the byte; SCCCR.FLUSH empties it and reads 0 (log entry
23); a write of SCCECR clears the ETU counter. -/
def writeScc (a : Nat) (mask v : Word) (s : State) : State :=
  let d := s.dev.scc
  if a = Adr.SCCDR then (if d.fifo.length < 16 then s.setScc { d with fifo := d.fifo ++ [v.setWidth 8] } else s)
  else if a = Adr.SCCCR then
    (plainWrite a mask v s).setScc (if bit v 23 then { d with fifo := [] } else d)
  else if a = Adr.SCCECR then (plainWrite a mask v s).setScc { d with etu := 0 }
  else plainWrite a mask v s

/-- R791: SCC_CLK is stopped: CLKSTP = 1 with a PX that says how (1 low, 2 high; log entry 23). -/
def sccStopped (s : State) : Bool :=
  let c := s.ioGet Adr.SCCCR
  bit c 0 && (field c 1 2 == 1 || field c 1 2 == 2)

/-- R791: the SCC works: SCCCR.SCCE, a running clock, and SCC_CLK not stopped. -/
def sccLive (s : State) : Bool := bit (s.ioGet Adr.SCCCR) 31 && deviceRuns s .scc && !sccStopped s

/-- R791: the head of the FIFO is sent; TEND and, with T2R, the turn to reception follow the last one (log entry 23). -/
def sccSend (s : State) : State :=
  let d := s.dev.scc
  let c := s.ioGet Adr.SCCCR
  if sccLive s && bit c 30 then
    match d.fifo with
    | [] => s
    | _ :: cs =>
      let s1 := s.setScc { d with fifo := cs }
      if cs.isEmpty then (s1.ioMod Adr.SCCSR (one 7) 0).ioMod Adr.SCCCR 0 (flag (bit c 29) 30) else s1
  else s

/-- R791: a character arrives; the first one is TS, and TSEND says so. One with a parity error sets PER and enters the FIFO all the
same (log entry 23). -/
def sccReceive (c : Byte) (parityError : Bool) (s : State) : State :=
  let d := s.dev.scc
  if sccLive s && !bit (s.ioGet Adr.SCCCR) 30 then
    let s1 := (s.ioMod Adr.SCCSR (flag parityError 10) 0).ioMod Adr.SCCCR (one 3) 0
    if d.fifo.length < 16 then s1.setScc { d with fifo := d.fifo ++ [c] } else s1.ioMod Adr.SCCSR (one 12) 0
  else s

/-- R791: TRANS and RTO as hardware drives them; TEND and RETR_3 as it sets them. -/
def sccStatus (v : BitVec 16) (s : State) : State :=
  if sccLive s then s.ioMod Adr.SCCSR (v.setWidth 32 &&& 0x8890) 0x8800 else s

/-- R791: one ETU; the counter overflows when it reaches SCCECR.EC, and starts again at 0 (log entry 23). -/
def sccEtu (s : State) : State :=
  if sccLive s then
    let n := s.dev.scc.etu + 1
    if n = (s.ioGet Adr.SCCECR).setWidth 20 then (s.setScc { s.dev.scc with etu := 0 }).ioMod Adr.SCCSR 1 0
    else s.setScc { s.dev.scc with etu := n }
  else s

/-! ### KBC -/

/-- Replace the KBC state. -/
def State.setKbc (s : State) (d : Kbc) : State := { s with dev := { s.dev with kbc := d } }

/-- R797: a read of KRDR empties the output buffer and clears its status; KCSR is computed. -/
def readKbc (a : Nat) (s : State) : Word × State :=
  let k := s.dev.kbc
  if a = Adr.KRDR_KTDR then
    (k.out.setWidth 32, s.setKbc { k with otf := false, per := false, tot := false, mof := false })
  else (kcsr s, s)

/-- R797, R798: a command response enters the output buffer, whatever it holds; PER and TOT stay (log entry 24). -/
def Kbc.respond (k : Kbc) (v : Byte) : Kbc := { k with out := v, otf := true, mof := false }

/-- R797: a write of KTDR fills the input buffer, over a byte not yet sent, and sets ITF. -/
def Kbc.fill (k : Kbc) (dest : KbcDest) (v : Byte) : Kbc :=
  { k with input := v, dest := dest, itf := true, ad2 := false, await := none }

/-- R797, R798: KTDR: the parameter of a pending command, else a byte to send. A parameter of the controller's own commands takes
effect at the write (log entry 24). -/
def Kbc.data (k : Kbc) (v : Byte) : Kbc :=
  match k.await.map BitVec.toNat with
  | none => k.fill .keyboard v
  | some 0x60 => { k.fill .controller v with cmdByte := v &&& 0x77 }
  | some 0xD2 => (k.fill .controller v).respond v
  | some 0xD3 => { (k.fill .controller v).respond v with mof := true }
  | some _ => k.fill .mouse v

/-- R798: commands; results the spec leaves to the lines are free, and a command drops one that still awaits its parameter (log
entry 24). -/
def kbcCommand (v : Byte) (s : State) : State :=
  let k := { s.dev.kbc with ad2 := true, await := none }
  match v.toNat with
  | 0x20 => s.setKbc (k.respond k.cmdByte)
  | 0x60 => s.setKbc { k with await := some v }
  | 0xA4 => s.setKbc (k.respond 0xF1)
  | 0xA7 => s.setKbc { k with cmdByte := k.cmdByte ||| 0x20 }
  | 0xA8 => s.setKbc { k with cmdByte := k.cmdByte &&& 0xDF }
  | 0xA9 => (s.drawn 1).setKbc (k.respond (BitVec.ofNat 8 (s.draw.toNat % 5)))
  | 0xAA => s.setKbc (k.respond 0x55)
  | 0xAB => (s.drawn 1).setKbc (k.respond (BitVec.ofNat 8 (s.draw.toNat % 5)))
  | 0xAD => s.setKbc { k with cmdByte := k.cmdByte ||| 0x10 }
  | 0xAE => s.setKbc { k with cmdByte := k.cmdByte &&& 0xEF }
  | 0xC0 => (s.drawn 1).setKbc (k.respond (s.draw.setWidth 8))
  | 0xD2 => s.setKbc { k with await := some v }
  | 0xD3 => s.setKbc { k with await := some v }
  | 0xD4 => s.setKbc { k with await := some v }
  | 0xE0 => (s.drawn 1).setKbc (k.respond (s.draw.setWidth 8))
  | _ => s.setKbc k

/-- R796: KTDR and KCCR. -/
def writeKbc (a : Nat) (v : Word) (s : State) : State :=
  if a = Adr.KRDR_KTDR then s.setKbc (s.dev.kbc.data (v.setWidth 8)) else kbcCommand (v.setWidth 8) s

/-- R798: the keyboard (KEN) or the mouse (MEN) interface is enabled. -/
def Kbc.enabled (k : Kbc) (mouse : Bool) : Bool := !k.cmdByte.getLsbD (if mouse then 5 else 4)

/-- R797: a byte arrives while the output buffer is empty: OTF = 1 holds KCLK low, and a byte of the mouse waits for it too; with SCT
the translation is not given (log entry 24). -/
def kbcReceive (c : Byte) (per mouse : Bool) (s : State) : State :=
  let k := s.dev.kbc
  if deviceRuns s .kbc && !k.otf && k.enabled mouse then
    let translate := k.cmdByte.getLsbD 6 && !mouse
    (if translate then s.drawn 1 else s).setKbc
      { k with out := (if translate then s.draw.setWidth 8 else c), otf := true, per := per, mof := mouse }
  else s

/-- R797: a receive from an enabled interface timed out; there is none, from the mouse neither, while OTF = 1 (log entry 24). -/
def kbcRxTimeout (mouse : Bool) (s : State) : State :=
  let k := s.dev.kbc
  if deviceRuns s .kbc && !k.otf && k.enabled mouse then
    s.setKbc { k with out := 0xFF, otf := true, tot := true, mof := mouse }
  else s

/-- R797, R798: the byte in the input buffer may go out: the interface it goes to is enabled, and KCLK, the keyboard's clock, is not
held low by a full output buffer. A parameter needs no line. -/
def Kbc.mayLeave (k : Kbc) : Bool :=
  match k.dest with
  | .keyboard => k.enabled false && !k.otf
  | .mouse => k.enabled true
  | .controller => true

/-- R797: the input buffer holds a byte that may go out. -/
def kbcSends (s : State) : Bool := deviceRuns s .kbc && s.dev.kbc.itf && s.dev.kbc.mayLeave

/-- R797: the byte of the input buffer has been sent, or the controller has taken its parameter (log entry 24). -/
def kbcSent (s : State) : State := if kbcSends s then s.setKbc { s.dev.kbc with itf := false } else s

/-- R797: a transmit timed out; the byte has not been sent, and ITF stays. A parameter is not clocked out (log entry 24). -/
def kbcTxTimeout (s : State) : State :=
  let k := s.dev.kbc
  if kbcSends s && k.dest != .controller then s.setKbc { k with out := 0xFE, otf := true, tot := true, mof := k.dest == .mouse }
  else s

end Sys2Proof.Machine
end

