-- ==== Sys2Proof/Machine/DevMasters.lean ====
section
/-! DEFINITION. UHC, UDC, LCD and CIM: register reads and writes with side effects, and the events that do not
use the bus (65_peripherals_bus_masters.md). Their DMA is in Agents.lean. -/

namespace Sys2Proof.Machine

/-! ### UDC -/

/-- Replace the UDC data path. -/
def State.setUdc (s : State) (d : Udc) : State := { s with dev := { s.dev with udc := d } }

/-- UISRn, UICRn, UIBSRn of IN endpoint `e`. -/
def uisr (e : Nat) : Nat := Adr.UISR0 + 0x20 * e
/-- UICRn -/
def uicr (e : Nat) : Nat := Adr.UICR0 + 0x20 * e
/-- UIBSRn -/
def uibsr (e : Nat) : Nat := Adr.UIBSR0 + 0x20 * e
/-- UOSRn, UOCRn and UOFNRn of OUT endpoint 0, 5, 6 or 7. -/
def uosr (e : Nat) : Nat := Adr.UOSR0 + 0x20 * e
/-- UOCRn -/
def uocr (e : Nat) : Nat := Adr.UOCR0 + 0x20 * e
/-- UOFNRn -/
def uofnr (e : Nat) : Nat := Adr.UOFNR0 + 0x20 * e

/-- R877: the word offset of TFIFOk from 0x13040840: the sum of the buffer sizes before it. -/
def tfifoOffset (s : State) : Nat → Nat
  | 0 => 0
  | k + 1 => tfifoOffset s k + field (s.ioGet (uibsr k)) 0 16

/-- R877: the IN endpoint whose TFIFO is at physical address `a`; the first one when bases coincide (log entry 26). -/
def tfifoAt (s : State) (a : Nat) : Option Nat :=
  [0, 1, 2, 3, 4].find? fun k => a == 0x13040840 + 4 * tfifoOffset s k

/-- The transmit FIFO of IN endpoint `k`. -/
def udcTx (s : State) (k : Nat) : UdcTx := (s.dev.udc.tx[k]?).getD .empty

/-- Replace the transmit FIFO of IN endpoint `k`. -/
def State.setUdcTx (s : State) (k : Nat) (t : UdcTx) : State :=
  s.setUdc { s.dev.udc with tx := s.dev.udc.tx.setIfInBounds k t }

/-- R884: a write of TFIFOk: a word, or after TZERO the wish for a zero-length packet; a full FIFO drops the word (U39). -/
def writeTfifo (k : Nat) (v : Word) (s : State) : State :=
  let t := udcTx s k
  if s.dev.udc.tzero then (s.setUdc { s.dev.udc with tzero := false }).setUdcTx k { t with zeroAsked := true }
  else if t.words.length < field (s.ioGet (uibsr k)) 0 16 then s.setUdcTx k { t with words := t.words ++ [v], confirmed := false }
  else s

/-- R884: TCFM: what has been written so far is confirmed, and a zero-length packet that was asked for is queued. -/
def UdcTx.confirm (t : UdcTx) : UdcTx :=
  { t with confirmed := t.confirmed || !t.words.isEmpty, zeroAsked := false, zero := t.zero || t.zeroAsked }

/-- R884: what an IN token leaves: the host has taken the confirmed words, or, when there are none, the queued zero-length packet
(log entry 26); else it retries. -/
def UdcTx.afterIn (t : UdcTx) : UdcTx :=
  if t.confirmed then { t with words := [], confirmed := false } else { t with zero := false }

/-- R884: TCFM confirms what has been written so far. -/
def confirmTx (s : State) : State := s.setUdc { s.dev.udc with tx := s.dev.udc.tx.map .confirm }

/-- R884: reads of RFIFO and TCFM. -/
def readUdc (a : Nat) (s : State) : Word × State :=
  if a = Adr.RFIFO then
    match s.dev.udc.rx with
    | [] => freeRead s
    | w :: ws => (w, s.setUdc { s.dev.udc with rx := ws })
  else if a = Adr.TCFM then
    let r := freeRead s
    (r.1, r.2.setUdc { r.2.dev.udc with zeroOut := false })
  else plainRead a s

/-- R879: the status registers of endpoints. -/
def isEndpointStatus (a : Nat) : Bool :=
  [uisr 0, uisr 1, uisr 2, uisr 3, uisr 4, uosr 0, uosr 5, uosr 6, uosr 7].contains a

/-- R878 to R884: UDC register writes. -/
def writeUdc (a : Nat) (mask v : Word) (s : State) : State :=
  if isEndpointStatus a then s.ioMod a 0 0x3FF870
  else if a = Adr.UIPR || a = Adr.UDIPR then s.ioMod a 0 v
  else if a = Adr.TCFM then confirmTx s
  else if a = Adr.TZERO then s.setUdc { s.dev.udc with tzero := true }
  else
    let s1 := plainWrite a mask v s
    if bit v 1 then
      match [0, 1, 2, 3, 4].find? fun k => a == uicr k with
      | some k => s1.setUdcTx k .empty
      | none => s1
    else s1

/-- The UDC is on USB port 0: SBA_CNTL.USBCFG = 0 (R601, R876), and its clock runs. -/
def udcLive (s : State) : Bool := deviceRuns s .udc && !bit (s.ioGet Adr.SBA_CNTL) 7

/-- R884: an IN token; a stalled endpoint does not take it (R878). -/
def udcIn (e : BitVec 3) (s : State) : State :=
  let k := e.toNat
  if k < 5 && udcLive s && !bit (s.ioGet (uicr k)) 0 then
    ((s.ioMod (uisr k) (one 6) 0).ioMod Adr.UIPR (one k) 0).setUdcTx k (udcTx s k).afterIn
  else s

/-- The words of a packet: four bytes each, the first in the lowest bits. -/
def packWords : Nat → List Byte → List Word
  | 0, _ => []
  | n + 1, bs => assembleLE (bs.take 4) :: packWords n (bs.drop 4)

/-- R878: endpoint 0 stalls SetConfiguration and SetInterface: S of its IN or of its OUT side is 1. Other SETUP packets meet S of
the OUT side alone (udcOut, log entry 26). -/
def udcStalled (s : State) : Bool := bit (s.ioGet (uicr 0)) 0 || bit (s.ioGet (uocr 0)) 0

/-- R884: SetConfiguration, unless endpoint 0 stalls it (R878). -/
def udcSetConfig (cfg : BitVec 4) (s : State) : State :=
  if udcLive s && !udcStalled s then (s.ioMod Adr.UDIPR (one 0) 0).ioMod Adr.UDSR (cfg.setWidth 32) 0xF else s

/-- R884: SetInterface, unless endpoint 0 stalls it (R878). -/
def udcSetInterface (intf alt : BitVec 4) (s : State) : State :=
  if udcLive s && !udcStalled s then
    (s.ioMod Adr.UDIPR (one 1) 0).ioMod Adr.UDSR ((intf.setWidth 32 <<< 4) ||| (alt.setWidth 32 <<< 8)) 0xFF0
  else s

/-- R884: the receive FIFO of 16 words has room for a packet. -/
def udcRoom (bytes : List Byte) (s : State) : Bool := decide (s.dev.udc.rx.length + (bytes.length + 3) / 4 ≤ 16)

/-- R884: the packet enters the receive FIFO, if it has room, else it is NAKed; the bytes that fill the last word are free. -/
def udcPush (k : Nat) (setup : Bool) (pid : BitVec 4) (frame : BitVec 14) (bytes : List Byte) (s : State) : State :=
  let n := bytes.length
  let d := s.dev.udc
  if udcRoom bytes s then
    let st : Word := pid.setWidth 32 ||| (if setup then 0x20 else 0x10) ||| (BitVec.ofNat 32 (n % 2048) <<< 11)
    let s1 := (((s.drawn 1).ioMod (uosr k) st 0x3FF83F).ioSet (uofnr k) (frame.setWidth 32)).ioMod Adr.UIPR (one (16 + k)) 0
    s1.setUdc { d with rx := d.rx ++ packWords ((n + 3) / 4) (bytes ++ splitLE 4 s.draw), zeroOut := d.zeroOut || decide (n = 0) }
  else s

/-- Who answers a request on endpoint 0 (R885). -/
inductive UdcRequest where
  | hardware | setConfiguration | setInterface | syncFrame | software
deriving DecidableEq, Repr

/-- R885: the standard requests by their codes (log entry 26); other requests go to software. -/
def udcRequest (bytes : List Byte) : UdcRequest :=
  match bytes with
  | t :: r :: _ =>
    if t.extractLsb' 5 2 != 0#2 then .software
    else
      match r.toNat with
      | 0 => .hardware
      | 1 => .hardware
      | 3 => .hardware
      | 5 => .hardware
      | 8 => .hardware
      | 10 => .hardware
      | 9 => .setConfiguration
      | 11 => .setInterface
      | 12 => .syncFrame
      | _ => .software
  | _ => .software

/-- Byte `i` of a SETUP packet. -/
def setupByte (bytes : List Byte) (i : Nat) : BitVec 4 := ((bytes[i]?).getD 0).setWidth 4

/-- R885: a SETUP packet on endpoint 0. SYNC_FRAME raises the endpoint's interrupt and a device interrupt, SOF (log entry 26),
unless it is NAKed (R884). -/
def udcSetup (pid : BitVec 4) (frame : BitVec 14) (bytes : List Byte) (s : State) : State :=
  match udcRequest bytes with
  | .hardware => s
  | .setConfiguration => udcSetConfig (setupByte bytes 2) s
  | .setInterface => udcSetInterface (setupByte bytes 4) (setupByte bytes 2) s
  | .syncFrame => if udcRoom bytes s then (udcPush 0 true pid frame bytes s).ioMod Adr.UDIPR (one 5) 0 else s
  | .software => udcPush 0 true pid frame bytes s

/-- R884, R885: an OUT or SETUP packet; a stalled endpoint does not take it (R878). -/
def udcOut (e : BitVec 3) (setup : Bool) (pid : BitVec 4) (frame : BitVec 14) (bytes : List Byte) (s : State) : State :=
  let k := e.toNat
  if (k = 0 || 5 ≤ k) && udcLive s && !bit (s.ioGet (uocr k)) 0 then
    if setup && k = 0 then udcSetup pid frame bytes s else udcPush k setup pid frame bytes s
  else s

/-- R881: SOF, suspend or reset on the bus. -/
def udcDevice (i : BitVec 3) (frame : BitVec 14) (s : State) : State :=
  if udcLive s && (i = 3 || i = 4 || i = 5) then
    let s1 := s.ioMod Adr.UDIPR (one i.toNat) 0
    if i = 5 then s1.ioMod Adr.UDSR (frame.setWidth 32 <<< 18) 0xFFFC0000 else s1
  else s

/-! ### LCD -/

/-- LCDCFG.MODE codes that are reserved (R891). -/
def lcdModeReserved (m : Nat) : Bool := m == 5 || m == 7 || decide (12 ≤ m)

/-- Enabled with a reserved MODE or BPP (93_implementation_defined.md part 2). -/
def lcdReserved (s : State) : Bool :=
  bit (s.ioGet Adr.LCDCTRL) 3 &&
    (lcdModeReserved (field (s.ioGet Adr.LCDCFG) 0 4) || decide (5 ≤ field (s.ioGet Adr.LCDCTRL) 0 3))

/-- Replace an LCD channel. -/
def State.setLcd (s : State) (c : BitVec 1) (d : LcdChannel) : State :=
  { s with dev := { s.dev with lcd := { s.dev.lcd with ch := s.dev.lcd.ch.set c.toNat d c.isLt } } }

/-- Replace the ends of a disable that are still to be reported. -/
def State.setLcdEnds (s : State) (quick normal : Bool) : State :=
  { s with dev := { s.dev with lcd := { s.dev.lcd with quick := quick, normal := normal } } }

/-- An LCD channel that fetches its next descriptor. -/
def LcdChannel.idle : LcdChannel := ⟨0, 0, 0, 0, true⟩

/-- R893: the LCD has been disabled by DIS: no channel is inside a descriptor. -/
def lcdDisabled (s : State) : Bool :=
  bit (s.ioGet Adr.LCDCTRL) 4 && s.dev.lcd.ch[0].phase == 0 && s.dev.lcd.ch[1].phase == 0

/-- R893: the controller runs: it is enabled, and not yet disabled by DIS. -/
def lcdActive (s : State) : Bool := bit (s.ioGet Adr.LCDCTRL) 3 && !lcdDisabled s

/-- R894: the ends of a disable that a write of `v` to LCDCTRL leaves to be reported: clearing ENA of a controller that runs is a
quick disable, setting DIS of one that runs a normal one; setting ENA anew withdraws both (log entry 28). -/
def lcdNote (v : Word) (s : State) : State :=
  let c := s.ioGet Adr.LCDCTRL
  let d := s.dev.lcd
  if bit v 3 then s.setLcdEnds false (bit v 4 && bit c 3 && (d.normal || !bit c 4))
  else s.setLcdEnds (d.quick || lcdActive s) (d.normal && !lcdActive s)

/-- R893: a write of LCDCTRL. Clearing ENA stops the channels at once, and DIS says so; DIS written as 1 lets them finish
their descriptor (log entry 28). -/
def writeLcdCtrl (mask v : Word) (s : State) : State :=
  let off := bit (s.ioGet Adr.LCDCTRL) 3 && !bit v 3
  let s1 := (plainWrite Adr.LCDCTRL mask v (lcdNote v s)).ioMod Adr.LCDCTRL (flag off 4) 0
  if bit v 3 then s1 else (s1.setLcd 0 .idle).setLcd 1 .idle

/-- R891 to R895: LCD register writes. -/
def writeLcd (a : Nat) (mask v : Word) (s : State) : Res Unit :=
  let s1 := if a = Adr.LCDCTRL then writeLcdCtrl mask v s else plainWrite a mask v s
  if lcdReserved s1 then .refused .reservedLcd else .ok () s1

/-- R893, R894: the status bits the panel side may report now: QD after a quick disable, LDD after a normal one, and OUF, IFU0 and
IFU1 while the controller runs. -/
def lcdReportable (s : State) : Word :=
  (if lcdActive s then 0xE else 0) ||| flag s.dev.lcd.quick 7 ||| flag (s.dev.lcd.normal && lcdDisabled s) 0

/-- R894: status the panel side sets: QD, OUF, IFU0, IFU1, LDD; the end of a disable is reported once. -/
def lcdStatus (v : BitVec 8) (s : State) : State :=
  if deviceRuns s .lcd then
    let r := v.setWidth 32 &&& lcdReportable s
    let d := s.dev.lcd
    (s.ioMod Adr.LCDSTATE r 0).setLcdEnds (d.quick && !bit r 7) (d.normal && !bit r 0)
  else s

/-! ### CIM -/

/-- Replace the CIM state. -/
def State.setCim (s : State) (d : Cim) : State := { s with dev := { s.dev with cim := d } }

/-- R903, R904. -/
def readCim (a : Nat) (s : State) : Word × State :=
  if a = Adr.CIMST then (cimst s, s)
  else if a = Adr.CIMRXFIFO then
    match s.dev.cim.rx with
    | [] => freeRead s
    | w :: ws => (w, s.setCim { s.dev.cim with rx := ws })
  else plainRead a s

/-- R902, R906: what a write of CIMCR that changes ENA does: enabling starts with a descriptor fetch, disabling lets the data in
hand be transferred first. Enabling it again before that has been reported withdraws VDD (log entry 28). -/
def Cim.setEnable (d : Cim) (before after : Bool) : Cim :=
  if after && !before then { d with phase := 0, loaded := false, first := true, stopped := false, closing := false }
  else if before && !after then { d with closing := true }
  else d

/-- R902 to R904: RF_RST empties RXFIFO; CIMST bits are cleared by writing 0; CIMDA has no bits 3:0 (log entry 28). -/
def writeCim (a : Nat) (mask v : Word) (s : State) : State :=
  if a = Adr.CIMST then andWrite a 0 0x79 v s
  else if a = Adr.CIMDA then plainWrite a 0xFFFFFFF0 v s
  else if a = Adr.CIMCR then
    let d := s.dev.cim
    let d1 := if bit v 1 then { d with rx := [] } else d
    (plainWrite a mask v s).setCim (d1.setEnable (bit (s.ioGet a) 0) (bit v 0))
  else plainWrite a mask v s

/-- R905: SensorWord; while RF_RST is 1 the FIFO stays empty. The word is as it enters the FIFO: the sensor side has applied INV_DAT
(R901) with PACK and DUMMY (log entry 28). -/
def cimWord (w : Word) (s : State) : State :=
  let c := s.ioGet Adr.CIMCR
  if bit c 0 && !bit c 1 && deviceRuns s .cim then
    if s.dev.cim.rx.length < 32 then s.setCim { s.dev.cim with rx := s.dev.cim.rx ++ [w] } else s.ioMod Adr.CIMST (one 3) 0
  else s

/-- R906: the DMA still has data to transfer: a descriptor is loaded and RXFIFO holds words. -/
def cimBusy (s : State) : Bool :=
  bit (s.ioGet Adr.CIMCR) 2 && s.dev.cim.loaded && !s.dev.cim.stopped && !s.dev.cim.rx.isEmpty

/-- R906: after ENA was cleared and the current valid data have been transferred the module is disabled: VDD. -/
def cimDisabled (s : State) : State :=
  if s.dev.cim.closing && !cimBusy s && deviceRuns s .cim then
    (s.ioMod Adr.CIMST (one 0) 0).setCim { s.dev.cim with closing := false, loaded := false }
  else s

end Sys2Proof.Machine
end

