-- ==== Sys2Proof/Machine/DevAudioCard.lean ====
section
/-! DEFINITION. AIC and MSC: register reads and writes with side effects, and the host events
(66_peripherals_audio_card.md). -/

namespace Sys2Proof.Machine

/-! ### AIC -/

/-- Replace the AIC FIFOs. -/
def State.setAic (s : State) (d : Aic) : State := { s with dev := { s.dev with aic := d } }

/-- R931, R935, R937: AICDR pops the receive FIFO, an empty one reads 0; ACCR2.SS reads 0 unless SA is 1 (R933). -/
def readAic (a : Nat) (s : State) : Word × State :=
  if a = Adr.AICDR then
    match s.dev.aic.rx with
    | [] => (0, s)
    | v :: vs => (v.setWidth 32, s.setAic { s.dev.aic with rx := vs })
  else if a = Adr.AICSR then (aicsr s, s)
  else if a = Adr.ACCR2 then
    let c := s.ioGet a
    (if bit c 0 then c else setBit c 1 false, s)
  else plainRead a s

/-- The registers AICFR.RST resets (R931). -/
def aicRegs : List Nat :=
  [Adr.AICFR, Adr.AICCR, Adr.ACCR1, Adr.ACCR2, Adr.I2SCR, Adr.AICSR, Adr.ACSR, Adr.I2SSR, Adr.ACCAR, Adr.ACCDR, Adr.ACSAR,
   Adr.ACSDR]

/-- Enabled with BCKD = 1 and SYNCD = 0, or in I2S format with a reserved WL (part 2). -/
def aicReserved (s : State) : Bool :=
  let f := s.ioGet Adr.AICFR
  bit f 0 && ((bit f 2 && !bit f 1) || (bit f 4 && decide (5 ≤ field (s.ioGet Adr.I2SCR) 1 3)))

/-- R931 to R937: AIC register writes before the check for reserved codes. -/
def writeAicReg (a : Nat) (mask v : Word) (s : State) : State :=
  if a = Adr.AICDR then
    let d := s.dev.aic
    if d.tx.length < 16 then s.setAic { d with tx := d.tx ++ [v.setWidth 24] } else s
  else if a = Adr.AICFR then
    if bit v 3 then (ioResetAll s aicRegs).setAic ⟨[], []⟩ else plainWrite a mask v s
  else if a = Adr.AICCR then
    let s1 := plainWrite a mask v s
    if bit v 8 then s1.setAic ⟨[], []⟩ else s1
  else if a = Adr.ACCR2 then plainWrite a (if bit v 0 then mask else mask &&& ~~~2#32) v s
  else if a = Adr.AICSR then andWrite a 0 0x60 v s
  else if a = Adr.ACSR then andWrite a 0 0x70000 v s
  else plainWrite a mask v s

/-- R931 to R937. -/
def writeAic (a : Nat) (mask v : Word) (s : State) : Res Unit :=
  let s1 := writeAicReg a mask v s
  if aicReserved s1 then .refused .reservedAic else .ok () s1

/-- AICFR.ENB, with a running clock; CDR.18 stops BIT_CLK. -/
def aicLive (s : State) : Bool := bit (s.ioGet Adr.AICFR) 0 && deviceRuns s .aic && !bit (s.ioGet Adr.CDR) 18

/-- R934: I2SCR.STPBK stops BIT_CLK; I2SCR counts only in I2S format (AICFR.AUSEL). -/
def aicBitClock (s : State) : Bool := aicLive s && !(bit (s.ioGet Adr.AICFR) 4 && bit (s.ioGet Adr.I2SCR) 12)

/-- R937: a sample reaches the receiver: it is recorded with EREC = 1, and lost with ROR when the FIFO is full. -/
def aicRecord (v : BitVec 24) (s : State) : State :=
  if bit (s.ioGet Adr.AICCR) 0 then
    let d := s.dev.aic
    if d.rx.length < 16 then s.setAic { d with rx := d.rx ++ [v] } else s.ioMod Adr.AICSR (one 6) 0
  else s

/-- AICCR.ENLBF: loop back (R932). -/
def aicLoop (s : State) : Bool := bit (s.ioGet Adr.AICCR) 2

/-- R932, R937: the sample `v` is sent; in loop back the receiver gets it (log entry 50). -/
def aicSend (v : BitVec 24) (s : State) : State := if aicLoop s then aicRecord v s else s

/-- R937: SampleOut; an empty FIFO underruns, and zero is sent. -/
def aicOut (s : State) : State :=
  if aicBitClock s && bit (s.ioGet Adr.AICCR) 1 then
    match s.dev.aic.tx with
    | [] => aicSend 0 (s.ioMod Adr.AICSR (one 5) 0)
    | v :: vs => aicSend v (s.setAic { s.dev.aic with tx := vs })
  else s

/-- R937: SampleIn, which loop back cuts off (log entry 50). -/
def aicIn (v : BitVec 24) (s : State) : State := if aicBitClock s && !aicLoop s then aicRecord v s else s

/-- R936: the command has been transmitted. -/
def aicCommandDone (s : State) : State := if aicLive s then s.ioMod Adr.ACSR (one 16) 0 else s

/-- R936: CODEC status arrives. -/
def aicStatus (sar sdr : BitVec 20) (s : State) : State :=
  if aicLive s then
    ((s.ioSet Adr.ACSAR (sar.setWidth 32)).ioSet Adr.ACSDR (sdr.setWidth 32)).ioMod Adr.ACSR (one 17) 0
  else s

/-- R935: no status within four frames. -/
def aicTimeout (s : State) : State := if aicLive s then s.ioMod Adr.ACSR (one 18) 0 else s

/-- R935: CODEC ready and low power. -/
def aicCodec (ready lowPower : Bool) (s : State) : State :=
  if aicLive s then s.ioMod Adr.ACSR (flag ready 20 ||| flag lowPower 19) 0x180000 else s

/-- R935: I2SSR.BSY. -/
def aicBusy (b : Bool) (s : State) : State := if aicLive s then s.ioSet Adr.I2SSR (flag b 2) else s

/-- R933: ACCR1.RS. -/
def aicSlots (rs : BitVec 10) (s : State) : State :=
  if aicLive s then s.ioSet Adr.ACCR1 (putField (s.ioGet Adr.ACCR1) 16 10 (rs.setWidth 32)) else s

/-! ### MSC -/

/-- Replace the MSC state. -/
def State.setMsc (s : State) (d : Msc) : State := { s with dev := { s.dev with msc := d } }

/-- R946: the head word leaves the data FIFO; the last read data ends the read transfer. -/
def Msc.pop (d : Msc) (rest : List Word) : Msc :=
  if rest.isEmpty && d.lastRead then { d with fifo := rest, transfer := .none, lastRead := false } else { d with fifo := rest }

/-- R945, R946: computed status, the response FIFO and the receive FIFO; outside a read transfer the data FIFO is MSC_TXFIFO,
which is write-only, and MSC_RXFIFO has no word (log entry 31). -/
def readMsc (a : Nat) (s : State) : Word × State :=
  let d := s.dev.msc
  if a = Adr.MSC_STAT then (mscStat s, s)
  else if a = Adr.MSC_IREG then (mscIreg s, s)
  else if a = Adr.MSC_RES then
    match d.res with
    | [] => freeField 16 s
    | h :: hs => (h.setWidth 32, s.setMsc { d with res := hs })
  else if a = Adr.MSC_RXFIFO then
    match d.fifo with
    | [] => freeRead s
    | w :: ws => if d.transfer == .read then (w, s.setMsc (d.pop ws)) else freeRead s
  else plainRead a s

/-- The registers MSC_STRPCL.RESET resets (R947). -/
def mscRegs : List Nat :=
  [Adr.MSC_STAT, Adr.MSC_CLKRT, Adr.MSC_CMDAT, Adr.MSC_RESTO, Adr.MSC_RDTO, Adr.MSC_BLKLEN, Adr.MSC_NOB, Adr.MSC_SNOB,
   Adr.MSC_IMASK, Adr.MSC_IREG, Adr.MSC_CMD, Adr.MSC_ARG]

/-- R943: reserved BUS_WIDTH or RESPONSE_FORMAT. -/
def mscReserved (s : State) : Bool :=
  let c := s.ioGet Adr.MSC_CMDAT
  bit c 9 || field c 0 3 == 7

/-- R945: a stream transfer (STREAM_BLOCK) needs CMD12 before its DATA_TRAN_DONE. -/
def mscStopOf (c : Word) : MscStop := if bit c 5 then .wanted else .notNeeded

/-- R945: an operation without data starts: CMD12 is the one that a stream transfer wants. -/
def mscStopAsked (s : State) : MscStop :=
  if s.dev.msc.stop == .wanted && field (s.ioGet Adr.MSC_CMD) 0 6 == 12 then .underWay else s.dev.msc.stop

/-- R942, R945, R947: START_OP clears the status of the last operation; DATA_EN empties the data FIFO and starts a
transfer. -/
def mscStart (s : State) : State :=
  let c := s.ioGet Adr.MSC_CMDAT
  let s1 := s.ioMod Adr.MSC_STAT 0 0x383F
  if bit c 3 then
    s1.setMsc
      { s1.dev.msc with
        fifo := [], transfer := (if bit c 4 then .write else .read), lastRead := false, awaitDone := true,
        stop := mscStopOf c, exitMultiple := false, exitTransfer := false }
  else s1.setMsc { s1.dev.msc with stop := mscStopAsked s }

/-- R941, R947: the requests a write of MSC_STRPCL leaves for the host: to stop the clock (withdrawn by starting it), to enter
ReadWait (withdrawn by STOP_READWAIT), to leave a multiple block or a stream transfer. -/
def Msc.requests (v : Word) (d : Msc) : Msc :=
  { d with
    stopClock := (if field v 0 2 == 1 then true else if field v 0 2 == 2 then false else d.stopClock),
    readWait := !bit v 4 && (d.readWait || bit v 5),
    exitMultiple := d.exitMultiple || bit v 7,
    exitTransfer := d.exitTransfer || bit v 6 }

/-- R947: what a write of MSC_STRPCL does, RESET first. -/
def writeStrpcl (v : Word) (s : State) : Res Unit :=
  let s1 := if bit v 3 then ((ioResetAll s mscRegs).setMsc .reset).ioMod Adr.MSC_STAT (one 15) 0 else s
  if field v 0 2 == 3 || (bit v 2 && mscReserved s1) then .refused .reservedMsc
  else
    let s2 := if field v 0 2 == 2 then s1.ioMod Adr.MSC_STAT (one 8) 0 else s1
    let s3 := if bit v 4 then s2.ioMod Adr.MSC_STAT 0 (one 9) else s2
    let s4 := if bit v 2 then mscStart s3 else s3
    .ok () (s4.setMsc (s4.dev.msc.requests v))

/-- R941 to R946: MSC register writes. MSC_TXFIFO takes a word while it has room, but in a read transfer, whose data FIFO is
read-only. -/
def writeMsc (a : Nat) (mask v : Word) (s : State) : Res Unit :=
  let d := s.dev.msc
  if a = Adr.MSC_STRPCL then writeStrpcl v s
  else if a = Adr.MSC_IREG then .ok () (s.ioMod a 0 (v &&& 7))
  else if a = Adr.MSC_TXFIFO then
    .ok () (if d.transfer != .read && d.fifo.length < 16 then s.setMsc { d with fifo := d.fifo ++ [v] } else s)
  else .ok () (plainWrite a mask v s)

/-- R947: the clock that CLOCK_CONTROL = 01 asked to stop has stopped. -/
def mscClockStopped (s : State) : State :=
  let d := s.dev.msc
  if deviceRuns s .msc && d.stopClock then (s.ioMod Adr.MSC_STAT 0 (one 8)).setMsc { d with stopClock := false } else s

/-- R947: the reset has finished. -/
def mscResetDone (s : State) : State := if deviceRuns s .msc then s.ioMod Adr.MSC_STAT 0 (one 15) else s

/-- The card clock runs. -/
def mscLive (s : State) : Bool := bit (s.ioGet Adr.MSC_STAT) 8 && deviceRuns s .msc

/-- R945: the command has been sent; if it was the CMD12 of a stream transfer, its data may be done now. -/
def Msc.commandSent (d : Msc) : Msc := { d with stop := if d.stop == .underWay then .notNeeded else d.stop }

/-- R947: CmdDone. -/
def mscCmdDone (r : CardAnswer) (s : State) : State :=
  if mscLive s then
    let s0 := s.setMsc s.dev.msc.commandSent
    let s1 := match r with
      | .response hs => s0.setMsc { s0.dev.msc with res := hs.take 8 }
      | .timeout => s0.ioMod Adr.MSC_STAT (one 1) 0
      | .crcError => s0.ioMod Adr.MSC_STAT (one 5) 0
    (s1.ioMod Adr.MSC_STAT (one 11) 0).ioMod Adr.MSC_IREG (one 2) 0
  else s

/-- R947: DataWord. -/
def mscDataWord (w : Word) (last : Bool) (s : State) : State :=
  let d := s.dev.msc
  if mscLive s && d.transfer == .read && !d.lastRead && d.fifo.length < 16 then
    s.setMsc { d with fifo := d.fifo ++ [w], lastRead := last }
  else s

/-- R947: TakeWord. -/
def mscTakeWord (s : State) : State :=
  let d := s.dev.msc
  if mscLive s && d.transfer == .write then
    match d.fifo with
    | [] => s
    | _ :: ws => s.setMsc { d with fifo := ws }
  else s

/-- R942: the error bits the host reports; CRC_WRITE_ERROR = 11 is reserved and never produced (part 2). -/
def mscErrors (errors : BitVec 6) : Word :=
  let e := errors.setWidth 32 &&& 0x1D
  if field e 2 2 == 3 then e &&& 0x11 else e

/-- R947: DataDone, once for each operation with data, of a stream transfer only when CMD12 has been sent (R945). The read data
still in the FIFO is the last (R945). -/
def mscDataDone (blocks : BitVec 16) (errors : BitVec 6) (s : State) : State :=
  let d := s.dev.msc
  if mscLive s && d.awaitDone && d.stop == .notNeeded then
    let d0 := { d with awaitDone := false, exitMultiple := false, exitTransfer := false }
    let d1 := if d.transfer == .read && !d.fifo.isEmpty then { d0 with lastRead := true }
      else { d0 with transfer := .none, lastRead := false }
    (((s.ioSet Adr.MSC_SNOB (blocks.setWidth 32)).ioMod Adr.MSC_STAT (mscErrors errors ||| one 12) 0).ioMod
      Adr.MSC_IREG 1 0).setMsc d1
  else s

/-- R947: PrgDone. -/
def mscPrgDone (s : State) : State :=
  if deviceRuns s .msc then (s.ioMod Adr.MSC_STAT (one 13) 0).ioMod Adr.MSC_IREG 2 0 else s

/-- R947: SdioInt. -/
def mscSdioInt (level : Bool) (s : State) : State :=
  if deviceRuns s .msc then
    (s.ioSet Adr.MSC_STAT (setBit (s.ioGet Adr.MSC_STAT) 14 level)).ioSet Adr.MSC_IREG
      (setBit (s.ioGet Adr.MSC_IREG) 7 level)
  else s

/-- R947: the card has entered the ReadWait that START_READWAIT asked for. -/
def mscReadWait (s : State) : State :=
  let d := s.dev.msc
  if deviceRuns s .msc && d.readWait then (s.ioMod Adr.MSC_STAT (one 9) 0).setMsc { d with readWait := false } else s

end Sys2Proof.Machine
end

