-- ==== Sys2Proof/Machine/EthFrame.lean ====
section
/-! DEFINITION. Ethernet frames as the MAC looks at them (65_peripherals_bus_masters.md R917 to R925): address filtering, PAUSE
and VLAN frames, wake-up frames, padding, and the status of a received frame. A frame's bytes stand in the order of the wire
and include its CRC. -/

namespace Sys2Proof.Machine

/-! ### Frames and CRCs -/

/-- The destination address. -/
def ethDest (f : List Byte) : List Byte := f.take 6

/-- The broadcast address. -/
def ethBroadcast : List Byte := List.replicate 6 0xFF

/-- The first bit of an address is 1. -/
def ethGroup (a : List Byte) : Bool := (a.head?.map fun b => b.getLsbD 0).getD false

/-- Two bytes of a frame as a number, the first one high. -/
def ethField (f : List Byte) (i : Nat) : Nat := ((f[i]?).getD 0).toNat * 256 + ((f[i + 1]?).getD 0).toNat

/-- The Length/Type field: the 13th and 14th bytes. -/
def ethLenType (f : List Byte) : Nat := ethField f 12

/-- One bit enters a CRC register of `w` bits with polynomial `poly`. -/
def crcBit {w : Nat} (poly crc : BitVec w) (b : Bool) : BitVec w :=
  if crc.msb != b then (crc <<< 1) ^^^ poly else crc <<< 1

/-- One byte enters, its least significant bit first. -/
def crcByte {w : Nat} (poly crc : BitVec w) (b : Byte) : BitVec w :=
  (List.range 8).foldl (fun c i => crcBit poly c (b.getLsbD i)) crc

/-- The CRC register after some bytes, from all ones. -/
def crcOf {w : Nat} (poly : BitVec w) (bs : List Byte) : BitVec w := bs.foldl (crcByte poly) (BitVec.allOnes w)

/-- The CRC-32 of IEEE 802.3, which the spec does not spell out (log entry 27). -/
def ethCrc (bs : List Byte) : BitVec 32 := crcOf 0x04C11DB7 bs

/-- The CRC-16 of the wake-up filters (log entry 27). -/
def ethCrc16 (bs : List Byte) : BitVec 16 := crcOf 0x8005 bs

/-- The frame check sequence as it follows the frame on the wire. -/
def ethFcs (bs : List Byte) : List Byte := splitLE 4 (~~~(ethCrc bs).reverse)

/-! ### Address filtering (R917, R918) -/

/-- R918: the station's address, its most significant byte first on the wire (N68, log entry 27). -/
def ethOwn (s : State) : List Byte :=
  let h := s.ioGet Adr.MAC_AHR
  let l := s.ioGet Adr.MAC_ALR
  [h.extractLsb' 8 8, h.extractLsb' 0 8, l.extractLsb' 24 8, l.extractLsb' 16 8, l.extractLsb' 8 8, l.extractLsb' 0 8]

/-- R918: the hash table accepts an address. -/
def ethHashHit (s : State) (a : List Byte) : Bool :=
  let i := ((ethCrc a).extractLsb' 26 6).toNat
  bit (s.ioGet (if 32 ≤ i then Adr.MAC_HTH else Adr.MAC_HTL)) (i % 32)

/-- R917: an address that is not broadcast gets past the address check: the hash table for multicast addresses (HP), for
physical ones too (HO), else comparison with the station's address, inverted by IF. -/
def ethAddressHit (s : State) (a : List Byte) : Bool :=
  let cr := s.ioGet Adr.MAC_CR
  if bit cr 13 then
    if ethGroup a || bit cr 15 then ethHashHit s a else a == ethOwn s
  else (a == ethOwn s) != bit cr 17

/-- R917: the frame passes the address filter: promiscuous mode, broadcast unless DBF, multicast with PM, or the address
check. PR outweighs DBF, and DBF outweighs PM and the hash table (log entry 27). -/
def ethPasses (s : State) (f : List Byte) : Bool :=
  let cr := s.ioGet Adr.MAC_CR
  let a := ethDest f
  bit cr 18 || (if a == ethBroadcast then !bit cr 11 else (ethGroup a && bit cr 19) || ethAddressHit s a)

/-! ### PAUSE and VLAN frames (R920, R921) -/

/-- R920: a PAUSE control frame: type 0x8808, opcode 1, the codes of IEEE 802.3, which the spec does not give (PRESUMED, log entry
27). -/
def ethIsPause (f : List Byte) : Bool := ethLenType f == 0x8808 && ethField f 14 == 1

/-- R921: the frame carries the tag of MAC_VTR1 or MAC_VTR2. -/
def ethTagged (s : State) (f : List Byte) : Bool :=
  ethLenType f == field (s.ioGet Adr.MAC_VTR1) 0 16 || ethLenType f == field (s.ioGet Adr.MAC_VTR2) 0 16

/-- R921: the longest legal frame. A second VLAN tag inside the first adds nothing (log entry 27). -/
def ethMaxLength (s : State) (f : List Byte) : Nat := if ethTagged s f then 1522 else 1518

/-! ### Received frames (R917, R924) -/

/-- R924: a frame shorter than 64 bytes, or one the wire reports as a runt. -/
def ethRunt (f : List Byte) (status : Word) : Bool := decide (f.length < 64) || bit status 11

/-- R917: whether a received frame goes to the host: the others with RA or past the filter, bad ones (runt, collided) only with
PB. PAUSE frames go as PCF says, whatever the filter and PB say, when FCE lets flow control decode them, and with FCE = 0 like
any other frame (log entry 27). -/
def ethAccepts (s : State) (f : List Byte) (status : Word) : Bool :=
  let cr := s.ioGet Adr.MAC_CR
  let fcr := s.ioGet Adr.MAC_FCR
  if ethIsPause f && bit fcr 1 then bit fcr 2
  else (bit cr 31 || ethPasses s f) && (bit cr 16 || !(ethRunt f status || bit status 6))

/-- R924: LE: an IEEE 802.3 length field that disagrees with the bytes received, padding to 46 bytes allowed for. -/
def ethLengthError (f : List Byte) : Bool :=
  decide (ethLenType f ≤ 1500) && f.length != max (ethLenType f) 46 + 18

/-- R917: ASTP strips the padding of a frame whose length field is less than 46, a runt too; its CRC stays. -/
def ethStrip (s : State) (f : List Byte) : List Byte :=
  if bit (s.ioGet Adr.MAC_CR) 8 && decide (ethLenType f < 46) && decide (18 + ethLenType f ≤ f.length) then
    f.take (14 + ethLenType f) ++ f.drop (f.length - 4)
  else f

/-- R924: RDES0 of a received frame whose delivered length is `n`. From the wire come CS, ME, DB and CE. -/
def ethRdes0 (s : State) (f : List Byte) (n : Nat) (status : Word) : Word :=
  let w := (status &&& 0x4E) ||| flag (bit status 3) 1 ||| flag (!ethPasses s f) 30 ||| flag (ethLengthError f) 12 |||
    flag (ethRunt f status) 11 ||| flag (ethGroup f) 10 ||| flag (decide (ethMaxLength s f < f.length)) 7 |||
    flag (decide (1500 < ethLenType f)) 5 ||| flag (decide (2048 < f.length)) 4
  w ||| flag (w &&& 0x8C2 != 0) 15 ||| (BitVec.ofNat 32 (n % 0x4000) <<< 16)

/-! ### Wake-up frames (R922) -/

/-- A list of bytes occurs in a frame. -/
def occursIn (p : List Byte) : List Byte → Bool
  | [] => p.isEmpty
  | b :: bs => p.isPrefixOf (b :: bs) || occursIn p bs

/-- R922: a magic packet: six bytes 0xFF and sixteen times the station's address, after the addresses of a frame to the
station, to all, or to a group. -/
def ethIsMagic (s : State) (f : List Byte) : Bool :=
  let own := ethOwn s
  (ethDest f == own || ethGroup (ethDest f)) &&
    occursIn (List.replicate 6 0xFF ++ (List.replicate 16 own).flatten) (f.drop 12)

/-- R922: one of the eight words of the wake-up filters. -/
def ethWkfrWord (s : State) (i : Nat) : Word := (s.dev.eth.wkfr[i]?).getD 0

/-- R922: the bytes filter `i` gives to its CRC: those of its mask from its offset on. -/
def ethMasked (s : State) (i : Nat) (f : List Byte) : List Byte :=
  let off := field (ethWkfrWord s 5) (8 * i) 8
  (List.range 31).filterMap fun j => if bit (ethWkfrWord s i) j then f[off + j]? else none

/-- R922: filter `i` recognises the frame. Bit 3 of its command says multicast, bit 0 enables it (N68, log entry 27). -/
def ethFilterHit (s : State) (i : Nat) (f : List Byte) : Bool :=
  let cmd := field (ethWkfrWord s 4) (8 * i) 4
  let crc := field (ethWkfrWord s (6 + i / 2)) (16 * (i % 2)) 16
  cmd.testBit 0 && (cmd.testBit 3 == ethGroup f) && (ethCrc16 (ethMasked s i f)).toNat == crc

/-- R922: a remote wake-up frame: past the address filter and recognised; unicast frames only with GUPE. -/
def ethIsWakeUp (s : State) (f : List Byte) : Bool :=
  ethPasses s f && (ethGroup f || bit (s.ioGet Adr.MAC_PMBR) 9) && [0, 1, 2, 3].any fun i => ethFilterHit s i f

/-! ### Transmitted frames (R925) -/

/-- R925: what goes on the wire for the bytes of a frame whose first descriptor has control word `c`: a packet shorter than 64
bytes is padded and gets a CRC unless DPD; another gets a CRC unless ACD, which counts only with FS. -/
def ethOnWire (c : Word) (f : List Byte) : List Byte :=
  if f.length < 64 && !bit c 23 then
    let p := f ++ List.replicate (60 - f.length) 0
    p ++ ethFcs p
  else if bit c 26 && bit c 29 then f
  else f ++ ethFcs f

/-- R917, R925: what MAC_CR makes of the wire's report `ev` on a transmitted frame: HBF only with HBD = 0, ED only with DC = 1; with
DTRY = 1 the first collision ends the frame with EC and a count of one (log entry 27). -/
def ethReport (s : State) (ev : Word) : Word :=
  let cr := s.ioGet Adr.MAC_CR
  let v := (if bit cr 28 then ev &&& ~~~one 7 else ev) &&& (if bit cr 5 then 0xFFF else 0xFFB)
  if bit cr 10 && v &&& 0x378 != 0 then putField (v ||| one 8) 3 4 1 else v

/-- R917: the MAC sends the frame again after the report `v`: a late collision with LCC = 1, unless DTRY allows one transmission only
or another cause aborts the frame (log entry 27). -/
def ethResends (s : State) (v : Word) : Bool :=
  let cr := s.ioGet Adr.MAC_CR
  bit cr 12 && !bit cr 10 && bit v 9 && v &&& 0xD06 == 0

/-- R925: TDES0 of a transmitted frame: FA is the OR of its causes. -/
def ethTdes0 (status : Word) : Word := (status &&& 0xFFF) ||| flag (status &&& 0xF06 != 0) 15

end Sys2Proof.Machine
end

