-- ==== Sys2Proof/Machine/DevEth.lean ====
section
/-! DEFINITION. The Ethernet MAC: register reads and writes with side effects, the states of its two DMA processes, and the events
that do not use the bus (65_peripherals_bus_masters.md R910 to R926). Its bus accesses are in EthAgent.lean. -/

namespace Sys2Proof.Machine

/-! ### Status -/

/-- Replace the MAC state. -/
def State.setEth (s : State) (d : Eth) : State := { s with dev := { s.dev with eth := d } }

/-- R913: set status bits; NIS and AIS follow, TI clears ETI and RI clears ERI. -/
def ethRaise (bits : Word) (s : State) : State :=
  let auto := flag (bit bits 0) 10 ||| flag (bit bits 6) 14
  (s.ioMod Adr.MAC_SR 0 auto).ioMod Adr.MAC_SR
    (bits ||| flag (bits &&& 0x4045 != 0) 16 ||| flag (bits &&& 0x27AA != 0) 15) 0

/-- MAC_SR.TS. -/
def ethTs (v : Word) (s : State) : State := s.ioSet Adr.MAC_SR (putField (s.ioGet Adr.MAC_SR) 20 3 v)

/-- MAC_SR.RS. -/
def ethRs (v : Word) (s : State) : State := s.ioSet Adr.MAC_SR (putField (s.ioGet Adr.MAC_SR) 17 3 v)

/-- Replace the transmit process. -/
def State.setTx (s : State) (d : EthDma) : State := s.setEth { s.dev.eth with tx := d }

/-- Replace the receive process. -/
def State.setRx (s : State) (d : EthDma) : State := s.setEth { s.dev.eth with rx := d }

/-- Buffer sizes in DES1. -/
def EthDma.size1 (d : EthDma) : Nat := field d.des1 0 11
/-- The second address is chained: there is no buffer 2 (R924, R926), also where the end of ring decides what the next descriptor is
(R923). -/
def EthDma.chained (d : EthDma) : Bool := bit d.des1 24
/-- Size of buffer 2. -/
def EthDma.size2 (d : EthDma) : Nat := if d.chained then 0 else field d.des1 11 11

/-- R926: the next descriptor. -/
def ethNext (base : Nat) (d : EthDma) (s : State) : Word :=
  if bit d.des1 25 then s.ioGet base
  else if bit d.des1 24 then d.des3
  else d.desc + 16 + BitVec.ofNat 32 (4 * field (s.ioGet Adr.MAC_BMR) 2 5)

/-! ### Transmission -/

/-- R926: the transmit process looks at the descriptor `d`. -/
def ethTxStart (d : Word) (s : State) : State := ethTs 1 (s.setTx { EthDma.reset with phase := .fetch 0, desc := d })

/-- The bytes of the descriptor under way that are already in the frame. -/
def EthDma.partialBytes (d : EthDma) : Nat :=
  match d.phase with
  | .buffer1 => d.done
  | .buffer2 => d.size1 + d.done
  | .release => d.size1 + d.size2
  | _ => 0

/-- The process back at the start of its descriptor, which it reads anew when it goes on (log entry 27). -/
def EthDma.rewind (d : EthDma) : EthDma :=
  { d with
    frame := d.frame.take (d.frame.length - d.partialBytes),
    used := (if d.phase == .release then d.used.dropLast else d.used) }

/-- R926: the transmit process goes into suspension; the code of TS is not given (log entry 27). -/
def ethTxSuspend (s : State) : State := ethTs s.draw ((s.drawn 1).setTx { s.dev.eth.tx.rewind with phase := .suspended })

/-- R917: the transmitter is enabled (MAC_CR.TE). -/
def ethTxEnabled (s : State) : Bool := bit (s.ioGet Adr.MAC_CR) 3

/-- R917: a frame is on the wire, and the transmitter sends it. -/
def ethTransmits (s : State) : Bool := ethTxEnabled s && s.dev.eth.sent.isSome

/-- R914, R926: the frame `d` goes to the wire. With OSF the process fetches the next one meanwhile, else it waits for the end
of this one. -/
def ethTxToWire (d : EthDma) (s : State) : State :=
  let next : EthDma := { EthDma.reset with desc := ethNext Adr.MAC_TBAR d s }
  let s1 := s.setEth { s.dev.eth with sent := some d, wire := ethOnWire d.ctl d.frame }
  if bit (s.ioGet Adr.MAC_OMR) 2 then ethTs 1 (s1.setTx { next with phase := .fetch 0 })
  else ethTs 2 (s1.setTx { next with phase := .close })

/-- The wire takes a frame: the transmitter is enabled (R917), and no frame is on it. -/
def ethWireFree (s : State) : Bool := ethTxEnabled s && s.dev.eth.sent.isNone

/-- A frame is complete: it goes to the wire, or waits until the wire takes it. -/
def ethTxHandOver (d : EthDma) (s : State) : State :=
  if ethWireFree s then ethTxToWire d s else ethTs 2 (s.setTx { d with phase := .close, first := true })

/-- R913, R926: the end of a transmit descriptor: the frame has been read whole (ETI), or this descriptor goes back to the host
(R925) and the next one is fetched. IOC counts in any descriptor of the frame (R926), where R913 names the first (log entry
27). -/
def ethTxDescDone (s : State) : State :=
  let d := s.dev.eth.tx
  let d1 := { d with used := d.used ++ [d.desc], ioc := d.ioc || bit d.des1 31 }
  if bit d.des1 30 then ethTxHandOver d1 (ethRaise (one 10) s) else s.setTx { d1 with phase := .release }

/-- R926: after buffer 1. -/
def ethTxBuffer2 (s : State) : State :=
  let d := s.dev.eth.tx
  if d.size2 = 0 then ethTxDescDone s else s.setTx { d with phase := .buffer2, done := 0 }

/-- R926: the four words of the descriptor are read. -/
def ethTxBuffer1 (s : State) : State :=
  let d := s.dev.eth.tx
  let d1 := if d.used.isEmpty then { d with ctl := d.des1 } else d
  let s1 := ethTs 3 (s.setTx d1)
  if d1.size1 = 0 then ethTxBuffer2 s1 else s1.setTx { d1 with phase := .buffer1, done := 0 }

/-- R912: a poll demand: the process looks at its descriptor again. A frame that was complete when the process was suspended
goes to the wire. -/
def ethTxPoll (s : State) : State :=
  let d := s.dev.eth.tx
  if d.phase == .suspended then
    if d.first then ethTxHandOver d s else ethTs 1 (s.setTx { d with phase := .fetch 0 })
  else s

/-- R914: MAC_OMR.SF: a frame starts only when the transmit FIFO holds all of it. -/
def ethStoreForward (s : State) : Bool := bit (s.ioGet Adr.MAC_OMR) 21

/-- R913: an underflow: the frame being read ends with UF, or the one on the wire whose end is not reported yet; without one nothing
happens. -/
def ethUnderflow (s : State) : State :=
  let d := s.dev.eth.tx
  match d.phase with
  | .buffer1 => ethTxHandOver { d with used := d.used ++ [d.desc], status := d.status ||| 2 } s
  | .buffer2 => ethTxHandOver { d with used := d.used ++ [d.desc], status := d.status ||| 2 } s
  | _ =>
    match s.dev.eth.sent with
    | some w => if w.opening then s.setEth { s.dev.eth with sent := some { w with status := w.status ||| 2 } } else s
    | none => s

/-! ### Reception -/

/-- R916: FOC counts a frame lost to receive FIFO overflow, modulo 2^11 (log entry 27). -/
def ethOverflow (s : State) : State :=
  if deviceRuns s .eth then
    let c := s.ioGet Adr.MAC_MFC
    s.ioSet Adr.MAC_MFC (putField c 17 11 (BitVec.ofNat 32 (field c 17 11 + 1)))
  else s

/-- R916: MFC counts `n` frames lost for want of a descriptor, modulo 2^16 (log entry 27). -/
def ethMissed (n : Nat) (s : State) : State :=
  let c := s.ioGet Adr.MAC_MFC
  s.ioSet Adr.MAC_MFC (putField c 0 16 (BitVec.ofNat 32 (field c 0 16 + n)))

/-- R926: the receive process acquires the descriptor `d`. -/
def ethRxStart (d : Word) (s : State) : State := ethRs 1 (s.setRx { EthDma.reset with phase := .fetch 0, desc := d })

/-- R912, R926: the receive process is suspended for want of a descriptor; the frames that wait are lost. -/
def ethRxSuspend (s : State) : State :=
  let e := s.dev.eth
  ethRs 4
    ((ethMissed e.rxFifo.length (ethRaise (one 7) s)).setEth
      { e with rxFifo := [], rx := { EthDma.reset with phase := .suspended, desc := e.rx.desc } })

/-- R926: the end of a receive descriptor: the frame is complete, or the next descriptor is acquired. -/
def ethRxDescDone (s : State) : State :=
  let d := s.dev.eth.rx
  let d1 := { d with used := [d.desc], desc := ethNext Adr.MAC_RBAR d s }
  if d.frame.isEmpty then ethRs 5 (s.setRx { d1 with phase := .close }) else ethRs 2 (s.setRx { d1 with phase := .fetch 0 })

/-- R926: after buffer 1. -/
def ethRxBuffer2 (s : State) : State :=
  let d := s.dev.eth.rx
  if d.size2 = 0 || d.frame.isEmpty then ethRxDescDone s else s.setRx { d with phase := .buffer2, done := 0 }

/-- R926: the frame goes on into the buffers of the descriptor. -/
def ethRxBuffer1 (s : State) : State :=
  let d := s.dev.eth.rx
  let s1 := ethRs 7 s
  if d.size1 = 0 || d.frame.isEmpty then ethRxBuffer2 s1 else s1.setRx { d with phase := .buffer1, done := 0 }

/-- R926: a descriptor is there: the frame under way goes on, or the next frame of the FIFO begins, or the process waits for
one. -/
def ethRxReady (s : State) : State :=
  let e := s.dev.eth
  if !e.rx.frame.isEmpty then ethRxBuffer1 s
  else
    match e.rxFifo with
    | [] => ethRs 3 (s.setRx { e.rx with phase := .waitFrame })
    | (f, st) :: rest =>
      ethRxBuffer1 (s.setEth
        { e with rxFifo := rest, rx := { e.rx with frame := f, status := st, first := true, opening := true } })

/-- R912: a poll demand of the receive process. -/
def ethRxPoll (s : State) : State :=
  let d := s.dev.eth.rx
  if d.phase == .suspended then ethRs 1 (s.setRx { d with phase := .fetch 0 }) else s

/-- R924, R926: a frame for the host enters the receive FIFO; while the process is suspended it is lost. A frame of more than
2048 bytes stops the watchdog (RWT). -/
def ethDeliver (f : List Byte) (status : Word) (s : State) : State :=
  let g := (ethStrip s f).take 2048
  let s1 := if 2048 < f.length then ethRaise (one 9) s else s
  let e := s1.dev.eth
  let s2 := s1.setEth { e with rxFifo := e.rxFifo ++ [(g, ethRdes0 s f g.length status)] }
  match e.rx.phase with
  | .stopped => s1
  | .suspended => ethMissed 1 s1
  | .waitFrame => ethRxReady s2
  | _ => s2

/-- R922: what an active power management block does with a frame. A frame with an error wakes nothing. -/
def ethWake (f : List Byte) (status : Word) (s : State) : State :=
  let p := s.ioGet Adr.MAC_PMBR
  if status &&& 0x84A == 0 then
    s.ioMod Adr.MAC_PMBR (flag (bit p 1 && ethIsMagic s f) 5 ||| flag (bit p 2 && ethIsWakeUp s f) 6) 0
  else s

/-- R922: reception is blocked by the power management block. -/
def ethAsleep (s : State) : Bool := s.ioGet Adr.MAC_PMBR &&& 6 != 0

/-- MAC_CR.RE and MAC_OMR.SR, with a running clock. -/
def ethReceives (s : State) : Bool := deviceRuns s .eth && bit (s.ioGet Adr.MAC_CR) 2 && bit (s.ioGet Adr.MAC_OMR) 1

/-- R920 to R926: a frame reaches the receiver. -/
def ethArrive (f : List Byte) (status : Word) (s : State) : State :=
  if ethAsleep s then ethWake f status s
  else if ethReceives s && ethAccepts s f status then ethDeliver f status s
  else s

/-- R917: loopback, in full duplex mode. -/
def ethLoopback (s : State) : Bool := bit (s.ioGet Adr.MAC_CR) 20 && field (s.ioGet Adr.MAC_CR) 21 2 != 0

/-- R917: DRO keeps the station from receiving while it transmits, also where software should have reset it: in full duplex and in
loopback. -/
def ethDeaf (s : State) : Bool := bit (s.ioGet Adr.MAC_CR) 23 && ethTransmits s

/-- R926: a frame arrives from the wire, which loopback cuts off. Without MAC_CR.RE it is lost, for the power management block too
(log entry 27). -/
def ethFrame (f : List Byte) (status : Word) (s : State) : State :=
  if deviceRuns s .eth && bit (s.ioGet Adr.MAC_CR) 2 && !ethLoopback s && !ethDeaf s then ethArrive f status s else s

/-! ### The end of a transmission -/

/-- R913, R925: the status of a frame whose descriptors all have it: TI, UNF, and the suspension after an underflow. -/
def ethTxReport (w : EthDma) (status : Word) (s : State) : State :=
  let uf := bit status 1
  let s1 := ethRaise (flag (w.ioc || uf) 0 ||| flag uf 5) s
  if uf then ethTxSuspend s1 else s1

/-- The process goes on after the end of a frame: the next one goes to the wire, or is fetched. -/
def ethTxGoOn (s : State) : State :=
  let d := s.dev.eth.tx
  match d.phase with
  | .close => if d.used.isEmpty then ethTs 1 (s.setTx { d with phase := .fetch 0 }) else ethTxToWire d s
  | _ => s

/-- R926: the frame `w` has ended with `status`. In loopback it comes back, unless DRO = 1 (R917). -/
def ethTxFinish (w : EthDma) (status : Word) (s : State) : State :=
  let f := ethOnWire w.ctl w.frame
  let s1 := ethTxReport w status (s.setEth { s.dev.eth with sent := none })
  ethTxGoOn (if ethLoopback s && bit (s.ioGet Adr.MAC_CR) 2 && !ethDeaf s then ethArrive f 0 s1 else s1)

/-! ### Starting and stopping -/

/-- R914, R926: MAC_OMR.ST starts and stops the transmit process, at once: a frame under way is dropped (log entry 27). -/
def ethTxSwitch (old new : Bool) (s : State) : State :=
  if new && !old then ethTxStart (s.ioGet Adr.MAC_TBAR) s
  else if !new && old then ethRaise (one 1) (ethTs 0 (s.setEth { s.dev.eth with tx := .reset, sent := none }))
  else s

/-- R914, R926: MAC_OMR.SR starts and stops the receive process, at once: frames under way are dropped (log entry 27). -/
def ethRxSwitch (old new : Bool) (s : State) : State :=
  if new && !old then ethRxStart (s.ioGet Adr.MAC_RBAR) s
  else if !new && old then ethRaise (one 8) (ethRs 0 (s.setEth { s.dev.eth with rx := .reset, rxFifo := [] }))
  else s

/-- A write of MAC_OMR. -/
def ethStartStop (old new : Word) (s : State) : State :=
  ethRxSwitch (bit old 1) (bit new 1) (ethTxSwitch (bit old 13) (bit new 13) s)

/-- R926: a bus error stops both processes; FBE says so, and TPS and RPS are not set (log entry 27). -/
def ethBusError (eb : Word) (s : State) : State :=
  let s1 := ethRaise (one 13) s
  let e := s1.dev.eth
  ethRs 0
    (ethTs 0
      ((s1.setEth { e with tx := { e.tx with phase := .stopped }, rx := { e.rx with phase := .stopped } }).ioSet Adr.MAC_SR
        (putField (s1.ioGet Adr.MAC_SR) 23 3 eb)))

/-- R913: the DMA may use the bus: its clock runs, and FBE is clear. -/
def ethDmaRuns (s : State) : Bool := deviceRuns s .eth && !bit (s.ioGet Adr.MAC_SR) 13

/-- R913: the timeouts that the MAC may report now: RWT while the receive process runs, TJT while a frame is being sent. -/
def ethReportable (s : State) : Word :=
  flag (s.dev.eth.rx.phase != .stopped) 9 ||| flag (ethTransmits s) 3

/-- R913: what a status bit brings with it: a jabber (TJT) stops the transmit process, which TPS says. -/
def ethWithStops (r : Word) : Word := r ||| flag (bit r 3) 1

/-- R913: RWT, UNF or TJT reported by the MAC; a jabber stops the transmission, an underflow ends its frame. With store and forward
or with the transmitter disabled no frame waits for data (R914, R917). ETI and ERI come from the processes. -/
def ethStatus (v : Word) (s : State) : State :=
  if deviceRuns s .eth then
    let r := v &&& ethReportable s
    let s1 := ethRaise (ethWithStops r) s
    if bit r 3 then ethTs 0 (s1.setEth { s1.dev.eth with tx := { s1.dev.eth.tx with phase := .stopped }, sent := none })
    else if bit v 5 && ethTxEnabled s && !ethStoreForward s then ethUnderflow s1
    else s1
  else s

/-! ### Registers -/

/-- MAC_CR.OM = 3 with the MAC enabled, or MAC_BMR.PBL neither 1 nor 4 with a process started (part 2). -/
def ethReserved (s : State) : Bool :=
  let cr := s.ioGet Adr.MAC_CR
  let omr := s.ioGet Adr.MAC_OMR
  let pbl := field (s.ioGet Adr.MAC_BMR) 8 6
  (field cr 21 2 == 3 && cr &&& 0xC != 0) || (omr &&& 0x2002 != 0 && pbl != 1 && pbl != 4)

/-- The registers of R910. -/
def ethRegs : List Nat :=
  [Adr.MAC_CR, Adr.MAC_AHR, Adr.MAC_ALR, Adr.MAC_HTH, Adr.MAC_HTL, Adr.MAC_MIA, Adr.MAC_MID, Adr.MAC_FCR, Adr.MAC_VTR1,
   Adr.MAC_VTR2, Adr.MAC_PMBR, Adr.MAC_BMR, Adr.MAC_RBAR, Adr.MAC_TBAR, Adr.MAC_SR, Adr.MAC_OMR, Adr.MAC_IER, Adr.MAC_MFC,
   Adr.MAC_HTAR, Adr.MAC_HRAR]

/-- R911: MAC_BMR.SWR. -/
def ethSoftReset (s : State) : State := (ioResetAll s ethRegs).setEth .reset

/-- R922: one of the eight writes of MAC_WKFR. -/
def ethWkfr (v : Word) (s : State) : State :=
  let e := s.dev.eth
  s.setEth { e with wkfr := e.wkfr.set e.wkfrCount.toNat v e.wkfrCount.isLt, wkfrCount := e.wkfrCount + 1 }

/-- R916: a read of MAC_MFC clears it. -/
def readEth (a : Nat) (s : State) : Word × State :=
  if a = Adr.MAC_MFC then (s.ioGet a, s.ioSet a 0) else plainRead a s

/-- R911 to R922: MAC register writes before the check for reserved codes. Busy of MAC_FCR is what was written, so that a 0 clears it
while a control frame is in progress, and MAC_MIA keeps what was written, so that MB = 0 withdraws an access (log entry 27). -/
def writeEthReg (a : Nat) (mask v : Word) (s : State) : State :=
  if a = Adr.MAC_BMR then (if bit v 0 then ethSoftReset s else plainWrite a mask v s)
  else if a = Adr.MAC_TPDR then ethTxPoll s
  else if a = Adr.MAC_RPDR then ethRxPoll s
  else if a = Adr.MAC_SR then s.ioMod a 0 (v &&& mask)
  else if a = Adr.MAC_OMR then ethStartStop (s.ioGet a) (masked mask (s.ioGet a) v) (plainWrite a mask v s)
  else if a = Adr.MAC_PMBR then (plainWrite a mask v s).ioMod a 0 (v &&& 0x60)
  else if a = Adr.MAC_WKFR then ethWkfr v s
  else plainWrite a mask v s

/-- R911 to R922. -/
def writeEth (a : Nat) (mask v : Word) (s : State) : Res Unit :=
  let s1 := writeEthReg a mask v s
  if ethReserved s1 then .refused .reservedEth else .ok () s1

/-- R919: MiiDone; without MB there is no access to end (log entry 27). -/
def ethMiiDone (data : BitVec 16) (s : State) : State :=
  let m := s.ioGet Adr.MAC_MIA
  if bit m 0 && deviceRuns s .eth then
    let s1 := s.ioMod Adr.MAC_MIA 0 1
    if bit m 1 then s1 else s1.ioSet Adr.MAC_MID (data.setWidth 32)
  else s

/-- R920: the control frame has been sent. -/
def ethPauseDone (s : State) : State := if deviceRuns s .eth then s.ioMod Adr.MAC_FCR 0 1 else s

end Sys2Proof.Machine
end

