-- ==== Sys2Proof/Machine/Bus.lean ====
section
/-! DEFINITION. One bus access: what answers a physical address (63_platform_memory.md R661 to R676), and its effect
(20_memory.md R125, R126). Every master uses these operations. -/

namespace Sys2Proof.Machine

/-! ### Address decoding (R663) -/

/-- What answers a physical address. -/
inductive Route where
  /-- a memory cell of a part that takes writes, or of one that does not -/
  | cell (key : Nat) (kind : RegionKind)
  /-- a device register -/
  | dev (r : IoReg)
  /-- TFIFO of UDC IN endpoint k -/
  | tfifo (k : Nat)
  /-- SDRAM mode register write window (R682) -/
  | sdmr
  /-- a device register's word, but not the register's own address -/
  | lane
  /-- NAND data space -/
  | nandData
  /-- NAND command or address space -/
  | nandCommand
  /-- a bank boot of reserved width -/
  | badBoot
  /-- two banks -/
  | overlap
  /-- nothing -/
  | nothing
deriving DecidableEq, Repr

/-- R667, R684: the address `a` lies in the bank of a SACR or DMAR register `r`. -/
def bankSelects (r : Word) (a : Nat) : Bool := (a / 0x1000000 % 256) &&& field r 0 8 == field r 8 8

/-- The offset of `a` in the bank of register `r`: the address bits its mask does not compare. -/
def bankOffset (r : Word) (a : Nat) : Nat :=
  a % 0x1000000 + ((a / 0x1000000 % 256) &&& (255 - field r 0 8)) * 0x1000000

/-- SACRn. -/
def sacr (n : Nat) : Nat := Adr.SACR0 + 4 * n
/-- DMAR(k+1). -/
def dmar (k : Nat) : Nat := Adr.DMAR1 + 4 * k

/-- R662: the SDRAM re-map. -/
def remap (pa : Nat) : Nat := if pa < 0x08000000 then pa + 0x20000000 else pa

/-- R663: the static and SDRAM banks that decode physical address `pa`, each with the offset in it. -/
def banksAt (s : State) (pa : Nat) : List (BankId × Nat) :=
  let a := remap pa
  ([0, 1, 2, 3, 4, 5].filter fun n => bankSelects (s.ioGet (sacr n)) a).map
    (fun n => (BankId.static n, bankOffset (s.ioGet (sacr n)) a)) ++
  ([0, 1].filter fun k => bankSelects (s.ioGet (dmar k)) a).map
    (fun k => (BankId.sdram k, bankOffset (s.ioGet (dmar k)) a))

/-- R661: the physical base of a bank after reset. -/
def bankBase : BankId → Nat
  | .static 0 => 0x1C000000
  | .static 1 => 0x18000000
  | .static 2 => 0x16000000
  | .static 3 => 0x14000000
  | .static 4 => 0x0C000000
  | .static _ => 0x08000000
  | .sdram 0 => 0x20000000
  | .sdram _ => 0x28000000
  | .pccard 0 => 0xC0000000
  | .pccard _ => 0xD0000000
  | .bootRom => 0x1FC00000

/-- Where a range of BOARD_MEMORY starts in its bank; SDRAM may be named by its low alias (R662). -/
def regionOffset (r : Region) : Nat := remap r.base - bankBase r.bank

/-- A range holds offset `off` of its bank. -/
def regionCovers (r : Region) (off : Nat) : Bool := decide (regionOffset r ≤ off) && decide (off < regionOffset r + r.size)

/-- R685: the PC Card socket at an address that no bank decodes. -/
def pccardAt (pa : Nat) : List (BankId × Nat) :=
  if 0xC0000000 ≤ pa ∧ pa < 0xE0000000 then [(BankId.pccard (pa / 0x10000000 % 2), pa % 0x10000000)] else []

/-- The number of a range's first cell: its base, for the boot ROM beyond the 32-bit addresses, because it covers a part of bank 0
(R675, log entry 6). -/
def regionKey (r : Region) : Nat := if r.bank = .bootRom then 0x100000000 + r.base else r.base

/-- The cell of a range at an offset of its bank that it holds. -/
def regionCell (r : Region) (off : Nat) : Route := .cell (regionKey r + (off - regionOffset r)) r.kind

/-- R676: the one range of a static bank repeats through it. -/
def repeatedCell (r : Region) (off : Nat) : Route :=
  if r.size = 0 then .nothing else .cell (regionKey r + (off + r.size - regionOffset r % r.size) % r.size) r.kind

/-- The cell at an offset of a bank: the range of BOARD_MEMORY that holds it. -/
def cellAt (s : State) (b : BankId) (off : Nat) : Route :=
  let parts := s.params.board.filter fun r => r.bank == b
  match b, parts with
  | .static _, [r] => repeatedCell r off
  | _, _ =>
    match parts.find? fun r => regionCovers r off with
    | some r => regionCell r off
    | none => .nothing

/-- R719: the pin of a bank's chip select is connected to the EMC. CS0_ and DCS0_ share no pin; in a NAND boot the bank of
the NAND device works from reset on (91_not_in_source.md N59), and a PC Card answers whatever GP90 and GP93 select (log entry
41). -/
def bankConnected (s : State) : BankId → Bool
  | .static 0 => true
  | .static 3 => s.params.bootSel.getLsbD 3 || pinConnected s 85
  | .static n => pinConnected s (82 + n)
  | .sdram 1 => pinConnected s 82
  | _ => true

/-- R672: the NAND partition of static bank 3; nothing answers in its reserved part (log entry 34). -/
def nandRoute (off : Nat) : Route :=
  if off < 0x40000 then .nandData else if off < 0xC0000 then .nandCommand else .nothing

/-- NFCSR.NFE. -/
def nandEnabled (s : State) : Bool := bit (s.ioGet Adr.NFCSR) 0

/-- R663: what the one bank that decodes an address answers. -/
def bankRoute (s : State) : List (BankId × Nat) → Route
  | [] => .nothing
  | [(.static n, off)] =>
    if !bankConnected s (.static n) then .nothing
    else if n = 3 && nandEnabled s then nandRoute off
    else if n = 0 && !s.params.bootSel.getLsbD 3 && s.params.bootSel.extractLsb' 0 2 == 3 then .badBoot
    else cellAt s (.static n) off
  | [(b, off)] => if bankConnected s b then cellAt s b off else .nothing
  | _ => .overlap

/-- The internal I/O space (R661). -/
def inIo (pa : Nat) : Bool := decide (0x10000000 ≤ pa) && decide (pa < 0x14000000)

/-- R740: what answers in the internal I/O space. -/
def ioRoute (s : State) (pa : Nat) : Route :=
  match ioReg pa with
  | some r => .dev r
  | none =>
    if 0x1301A000 ≤ pa ∧ pa < 0x1301C000 then .sdmr
    else
      match tfifoAt s pa with
      | some k => .tfifo k
      | none => if (ioReg (pa / 4 * 4)).isSome then .lane else .nothing

/-- R675: the boot ROM answers with cells that take no writes, whatever part BOARD_MEMORY puts there. -/
def bootRomRoute (s : State) (off : Nat) : Route :=
  match cellAt s .bootRom off with
  | .cell key _ => .cell key .rom
  | r => r

/-- R675: the window of the boot ROM in a NAND boot. -/
def inBootRom (s : State) (pa : Nat) : Bool :=
  s.params.bootSel.getLsbD 3 && decide (0x1FC00000 ≤ pa) && decide (pa < 0x1FC01000)

/-- R663: what answers physical address `pa`. -/
def route (s : State) (pa : Nat) : Route :=
  if inIo pa then ioRoute s pa
  else if inBootRom s pa then bootRomRoute s (pa - 0x1FC00000)
  else
    match banksAt s pa with
    | [] => bankRoute s (pccardAt pa)
    | banks => bankRoute s banks

/-- R719: pin GP`k`, FRE_ or FWE_, carries its NAND strobe: it has function 1, or the chip boots from NAND (N59, log entry 41). -/
def nandStrobe (s : State) (k : Nat) : Bool := pinConnected s k || s.params.bootSel.getLsbD 3

/-- What answers a read at `pa`: the NAND device only where FRE_ (GP79) reaches it (R719). -/
def readRoute (s : State) (pa : Nat) : Route :=
  match route s pa with
  | .nandData => if nandStrobe s 79 then .nandData else .nothing
  | r => r

/-- What answers a write at `pa`: the NAND device only where FWE_ (GP80) reaches it (R719). -/
def writeRoute (s : State) (pa : Nat) : Route :=
  match route s pa with
  | .nandData => if nandStrobe s 80 then .nandData else .nothing
  | .nandCommand => if nandStrobe s 80 then .nandCommand else .nothing
  | r => r

/-! ### Device registers -/

/-- A read of a device register with its side effects; a write-only register reads any value (U26). -/
def ioRead (r : IoReg) (s : State) : Word × State :=
  if r.acc == .w && r.addr != Adr.TCFM then freeRead s
  else
    match r.block with
    | .cpm => plainRead r.addr s
    | .intc => readIntc r.addr s
    | .ost => readOst r.addr s
    | .rtc => plainRead r.addr s
    | .wdt => plainRead r.addr s
    | .gpio => readGpio r.addr r.mask s
    | .aic => readAic r.addr s
    | .msc => readMsc r.addr s
    | .uart u => readUart u (r.addr % 0x1000) s
    | .scc => readScc r.addr s
    | .i2c => readI2c r.addr s
    | .ssi => readSsi r.addr s
    | .pwm _ => plainRead r.addr s
    | .kbc => readKbc r.addr s
    | .sba => plainRead r.addr s
    | .emc => readEmc r.addr s
    | .dmac => readDmac r.addr s
    | .uhc => plainRead r.addr s
    | .udc => readUdc r.addr s
    | .lcd => plainRead r.addr s
    | .cim => readCim r.addr s
    | .eth => readEth r.addr s

/-- A write of a device register with its side effects; a read-only register takes no write (R530). -/
def ioWrite (r : IoReg) (v : Word) (s : State) : Res Unit :=
  if r.acc == .r then .ok () s
  else
    match r.block with
    | .cpm => writeCpmPins r.addr r.mask v s
    | .intc => .ok () (writeIntc r.addr r.mask v s)
    | .ost => writeOst r.addr r.mask v s
    | .rtc => .ok () (writeRtc r.addr r.mask v s)
    | .wdt => .ok () (writeWdt r.addr r.mask v s)
    | .gpio => .ok () (writeGpio r.addr r.mask v s)
    | .aic => writeAic r.addr r.mask v s
    | .msc => writeMsc r.addr r.mask v s
    | .uart u => .ok () (writeUart u (r.addr % 0x1000) v s)
    | .scc => .ok () (writeScc r.addr r.mask v s)
    | .i2c => .ok () (writeI2c r.addr r.mask v s)
    | .ssi => .ok () (writeSsi r.addr r.mask v s)
    | .pwm _ => .ok () (plainWrite r.addr r.mask v s)
    | .kbc => .ok () (writeKbc r.addr v s)
    | .sba => .ok () (plainWrite r.addr r.mask v s)
    | .emc => .ok () (writeEmc r.addr r.mask v s)
    | .dmac => writeDmac r.addr r.mask v s
    | .uhc => .ok () (plainWrite r.addr r.mask v s)
    | .udc => .ok () (writeUdc r.addr r.mask v s)
    | .lcd => writeLcd r.addr r.mask v s
    | .cim => .ok () (writeCim r.addr r.mask v s)
    | .eth => writeEth r.addr r.mask v s

/-! ### Bus accesses -/

/-- The value of `bs` on the bus (R101). -/
def State.value (s : State) (bs : List Byte) : Word := assemble s.params.bigEndian bs

/-- The `n` bytes of a value on the bus (R101). -/
def State.bytes (s : State) (n : Nat) (v : Word) : List Byte := split s.params.bigEndian n v

/-- A bus read of `n` bytes at `pa`, lowest address first. The bytes lie in one aligned word. -/
def busRead (n pa : Nat) (s : State) : Res (List Byte) :=
  match readRoute s pa with
  | .cell key _ => .ok (s.memBytes key n) s
  | .dev r =>
    if 8 * n ≠ r.bits then .refused .deviceWidth
    else if !clockOn s r.block then .refused .clockStopped
    else .ok (s.bytes n (ioRead r s).1) (ioRead r s).2
  | .tfifo _ =>
    if n ≠ 4 then .refused .deviceWidth
    else if !clockOn s .udc then .refused .clockStopped
    else .ok (s.bytes n s.draw) (s.drawn 1)
  | .sdmr => if n ≠ 1 then .refused .deviceWidth else .ok (s.bytes n s.draw) (s.drawn 1)
  | .lane => .refused .deviceWidth
  | .nandData => .ok (s.bytes n s.draw) (nandEcc (s.drawn 1))
  | .nandCommand => .refused .nandRead
  | .badBoot => .refused .reservedBootSel
  | .overlap => .refused .bankOverlap
  | .nothing => .fault .unbacked

/-- A bus write of the bytes `bs` at `pa`, lowest address first. The bytes lie in one aligned word. -/
def busWrite (bs : List Byte) (pa : Nat) (s : State) : Res Unit :=
  match writeRoute s pa with
  | .cell key .ram => .ok () (s.setMemBytes key bs)
  | .cell _ .rom => .refused .romWrite
  | .dev r =>
    if 8 * bs.length ≠ r.bits then .refused .deviceWidth
    else if !clockOn s r.block then .refused .clockStopped
    else ioWrite r (s.value bs) s
  | .tfifo k =>
    if bs.length ≠ 4 then .refused .deviceWidth
    else if !clockOn s .udc then .refused .clockStopped
    else .ok () (writeTfifo k (s.value bs) s)
  | .sdmr => if bs.length ≠ 1 then .refused .deviceWidth else .ok () s
  | .lane => .refused .deviceWidth
  | .nandData => .ok () (nandEcc s)
  | .nandCommand => .ok () s
  | .badBoot => .refused .reservedBootSel
  | .overlap => .refused .bankOverlap
  | .nothing => .fault .unbacked

/-- Whether the core may cache what is at `pa`: device registers (R126, U11) and the NAND command and address spaces (R672)
may not be. -/
def cacheable (s : State) (pa : Nat) : Bool :=
  match route s pa with
  | .dev _ => false
  | .tfifo _ => false
  | .sdmr => false
  | .lane => false
  | .nandCommand => false
  | _ => !inIo pa

/-! ### The write buffer (20_memory.md R141) -/

/-- The oldest buffered store reaches the bus. -/
def drainOne (s : State) : Res Unit :=
  match s.wbuf with
  | [] => .ok () s
  | (pa, bs) :: rest => busWrite bs pa { s with wbuf := rest }

end Sys2Proof.Machine
end

