-- ==== Sys2Proof/Machine/Dma.lean ====
section
/-! DEFINITION. The DMA controller as a bus master (63_platform_memory.md R690 to R699). In single mode one event is one bus
access; in block mode one event is the whole transfer (log entry 20). -/

namespace Sys2Proof.Machine

/-- DSAn of channel `n`. -/
def dsa (n : Nat) : Nat := dmaAdr Adr.DSA0 n
/-- DDAn of channel `n`. -/
def dda (n : Nat) : Nat := dmaAdr Adr.DDA0 n
/-- R692: DCSn.RDIL, the units between two request detections. -/
def dmaInterval (code : Nat) : Nat :=
  ([0, 2, 4, 8, 12, 16, 20, 24, 28, 32, 48, 60, 64, 124, 128, 200][code]?).getD 0

/-- Units left of a detected request. -/
def dmaLeft (s : State) (n : Nat) : Nat := (s.dev.dma.left[n]?).getD 0

/-- R696: channel `n` may move a unit: a detected request still runs, or a request is there. -/
def dmaReady (s : State) (n : Nat) : Bool := dmaActive s n && (dmaLeft s n != 0 || dmaRequest s n (dmaType s n))

/-- R695: the order in which DMAC.PM serves the channels; round robin starts behind the channel served last. -/
def dmaOrder (s : State) : List Nat :=
  let d := s.dev.dma
  match field (s.ioGet Adr.DMAC) 8 2 with
  | 0 => [0, 1, 2, 3, 4, 5]
  | 1 => [0, 2, 3, 1, 4, 5]
  | 2 => [2, 0, 1, 3, 4, 5]
  | _ => ([1, 2, 3, 4].map fun i => (d.lastLow + i) % 4) ++ ([1, 2].map fun i => 4 + (d.lastHigh + i) % 2)

/-- Replace the DMAC's own state. -/
def State.setDmac (s : State) (d : Dma) : State := { s with dev := { s.dev with dma := d } }

/-- No unit is under way. -/
def dmaIdle (s : State) : State := s.setDmac { s.dev.dma with cur := none, buf := [], written := 0 }

/-- R696: channel `n` starts a unit; a new detection starts the interval and takes a latched DREQ edge. -/
def dmaStart (n : Nat) (s : State) : State :=
  let d := s.dev.dma
  let rdil := dmaInterval (field (dcs s n) 16 4)
  let fresh := dmaLeft s n == 0
  s.setDmac
    { d with
      cur := some n, buf := [], written := 0,
      left := (if fresh then d.left.setIfInBounds n (if dmaType s n = 8 then 0 else rdil) else d.left),
      dreqEdge := (if fresh && dmaType s n == 0 then d.dreqEdge &&& ~~~(1#2 <<< n) else d.dreqEdge),
      lastLow := (if n < 4 then n else d.lastLow),
      lastHigh := (if n < 4 then d.lastHigh else n - 4) }

/-- R697: an address error. -/
def dmaAddressError (n : Nat) (s : State) : State :=
  dmaIdle ((s.ioMod (dmaAdr Adr.DCS0 n) (one 4) 0).ioMod Adr.DMAC (one 2) 0)

/-- R698: a read of a FIFO port finds data there. -/
def fifoHasData (s : State) (pa : Nat) : Bool :=
  if pa = Adr.SSIDR then !s.dev.ssi.rx.isEmpty
  else if pa = Adr.AICDR then !s.dev.aic.rx.isEmpty
  else if pa = Adr.MSC_RXFIFO then s.dev.msc.transfer != .write && !s.dev.msc.fifo.isEmpty
  else if pa = Adr.URBR_UTHR_UDLLR0 then !(s.uart 0).rx.isEmpty
  else if pa = Adr.URBR_UTHR_UDLLR1 then !(s.uart 1).rx.isEmpty
  else if pa = Adr.URBR_UTHR_UDLLR2 then !(s.uart 2).rx.isEmpty
  else if pa = Adr.URBR_UTHR_UDLLR3 then !(s.uart 3).rx.isEmpty
  else true

/-- Room in the transmit queue of a UART. -/
def uartRoom (u : Uart) : Bool := decide (u.tx.length < u.capacity)

/-- R698: a write of a FIFO port finds room there. -/
def fifoHasRoom (s : State) (pa : Nat) : Bool :=
  if pa = Adr.SSIDR then decide (s.dev.ssi.tx.length < 16)
  else if pa = Adr.AICDR then decide (s.dev.aic.tx.length < 16)
  else if pa = Adr.MSC_TXFIFO then decide (s.dev.msc.fifo.length < 16)
  else if pa = Adr.URBR_UTHR_UDLLR0 then uartRoom (s.uart 0)
  else if pa = Adr.URBR_UTHR_UDLLR1 then uartRoom (s.uart 1)
  else if pa = Adr.URBR_UTHR_UDLLR2 then uartRoom (s.uart 2)
  else if pa = Adr.URBR_UTHR_UDLLR3 then uartRoom (s.uart 3)
  else true

/-- R698: the trigger value of the device behind an on-chip request type, in FIFO entries: of its receive FIFO for `rx`, else of its
transmit FIFO. `none`: the type serves no such FIFO. -/
def dmaTriggerValue (s : State) (rx : Bool) (rt : Nat) : Option Nat :=
  match rx, rt with
  | false, 14 => some 8
  | true, 15 => some (s.uart 3).trigger
  | false, 16 => some 8
  | true, 17 => some (s.uart 2).trigger
  | false, 18 => some 8
  | true, 19 => some (s.uart 1).trigger
  | false, 20 => some 8
  | true, 21 => some (s.uart 0).trigger
  | false, 22 => some (ssiTrigger (field (s.ioGet Adr.SSICR1) 10 2))
  | true, 23 => some (ssiTrigger (field (s.ioGet Adr.SSICR1) 8 2))
  | false, 24 => some (field (s.ioGet Adr.AICFR) 8 4 + 1)
  | true, 25 => some (field (s.ioGet Adr.AICFR) 12 4 + 1)
  | false, 26 => some 8
  | true, 27 => some 8
  | _, _ => none

/-- R698: one detection of channel `n` in single mode may move more entries, one an access of `w` bytes, than the trigger value of
the device's receive FIFO (`rx`) or transmit FIFO. -/
def dmaExceeds (n : Nat) (rx : Bool) (w : Nat) (s : State) : Bool :=
  let c := dcs s n
  match dmaTriggerValue s rx (dmaType s n) with
  | some k => !bit c 7 && decide (k < max 1 (dmaInterval (field c 16 4)) * (dmaUnitBytes c / w))
  | none => false

/-- R698: the access of `w` bytes at the FIFO port `pa` under- or over-runs a FIFO whose constraint the channel breaks. Where the
constraint holds, or the transfer is of another kind, an empty FIFO is read and a full one written as by the core (U37, U39,
log entry 20). -/
def dmaOverruns (n : Nat) (rx : Bool) (w pa : Nat) (s : State) : Bool :=
  dmaExceeds n rx w s && !(if rx then fifoHasData s pa else fifoHasRoom s pa)

/-- R697: an address that is misaligned to the port or that nothing answers (`target`). -/
def dmaBadAddress (pa w : Nat) (target : Route) : Bool := pa % w != 0 || target == .nothing

/-- The address of byte `i` of a unit at `a`: a port that does not increment stays at its address. -/
def dmaPortAddr (a : Nat) (inc : Bool) (i : Nat) : Nat := if inc then (a + i) % 2 ^ 32 else a

/-- A bus read of the DMAC; 16- and 8-bit samples pass AICDR at their own width, in the least significant bits (R938). -/
def dmaBusRead (w pa : Nat) (s : State) : Res (List Byte) :=
  if pa = Adr.AICDR then (busRead 4 pa s).bind fun bs s1 => .ok (s1.bytes w (s1.value bs)) s1 else busRead w pa s

/-- A bus write of the DMAC, AICDR at the width of a sample (R938). -/
def dmaBusWrite (bs : List Byte) (pa : Nat) (s : State) : Res Unit :=
  if pa = Adr.AICDR then busWrite (s.bytes 4 (s.value bs)) pa s else busWrite bs pa s

/-- The next source access of the unit. -/
def dmaRead (n : Nat) (s : State) : Res Unit :=
  let port := dmaPortBytes (dcs s n) 14
  let w := min port (dmaUnitBytes (dcs s n))
  let pa := dmaPortAddr (s.ioGet (dsa n)).toNat (bit (dcs s n) 23) s.dev.dma.buf.length
  if dmaBadAddress pa port (readRoute s pa) then .ok () (dmaAddressError n s)
  else if dmaOverruns n true w pa s then .refused .dmaTrigger
  else (dmaBusRead w pa s).bind fun bs s1 => .ok () (s1.setDmac { s1.dev.dma with buf := s1.dev.dma.buf ++ bs })

/-- R696: the unit is done. -/
def dmaFinish (n size : Nat) (s : State) : State :=
  let c := dcs s n
  let s1 := if bit c 23 then s.ioSet (dsa n) (s.ioGet (dsa n) + BitVec.ofNat 32 size) else s
  let s2 := if bit c 22 then s1.ioSet (dda n) (s1.ioGet (dda n) + BitVec.ofNat 32 size) else s1
  let tc := dmaCount s2 n - 1
  let s3 := s2.ioSet (dtc n) (BitVec.ofNat 32 tc)
  let s4 := if tc = 0 then s3.ioMod (dmaAdr Adr.DCS0 n) (one 3) 0 else s3
  dmaIdle (s4.setDmac { s4.dev.dma with left := s4.dev.dma.left.setIfInBounds n (dmaLeft s4 n - 1) })

/-- The next destination access of the unit. -/
def dmaWrite (n size : Nat) (s : State) : Res Unit :=
  let port := dmaPortBytes (dcs s n) 12
  let w := min port size
  let k := s.dev.dma.written
  let pa := dmaPortAddr (s.ioGet (dda n)).toNat (bit (dcs s n) 22) k
  if dmaBadAddress pa port (writeRoute s pa) then .ok () (dmaAddressError n s)
  else if dmaOverruns n false w pa s then .refused .dmaTrigger
  else
    (dmaBusWrite ((s.dev.dma.buf.drop k).take w) pa s).bind fun _ s1 =>
      .ok () (if size ≤ k + w then dmaFinish n size s1 else s1.setDmac { s1.dev.dma with written := k + w })

/-- One access of the unit under way on channel `n`: a unit smaller than a port is moved in one access of its own width. -/
def dmaAccess (n : Nat) (s : State) : Res Unit :=
  let size := dmaUnitBytes (dcs s n)
  if s.dev.dma.buf.length < size then dmaRead n s else dmaWrite n size s

/-- Up to `k` accesses of channel `n`, while it stays active: the whole transfer of block mode. -/
def dmaBlock (n : Nat) : Nat → State → Res Unit
  | 0, s => .ok () s
  | k + 1, s =>
    if !dmaActive s n then .ok () (dmaIdle s)
    else (dmaAccess n (if s.dev.dma.cur = some n then s else dmaStart n s)).bind fun _ s1 => dmaBlock n k s1

/-- An upper bound of the accesses of a block: at most 32 reads and 32 writes a unit, and the last look. -/
def dmaBlockBound (s : State) (n : Nat) : Nat := 64 * dmaCount s n + 1

/-- Channel `n` goes on: one access, or in block mode all of them. -/
def dmaGo (n : Nat) (s : State) : Res Unit :=
  if bit (dcs s n) 7 then dmaBlock n (dmaBlockBound s n) s
  else dmaAccess n (if s.dev.dma.cur = some n then s else dmaStart n s)

/-- One step of the DMAC. A unit whose channel has been stopped is dropped. -/
def dmaUnit (s : State) : Res Unit :=
  if !deviceRuns s .dmac then .ok () s
  else
    match s.dev.dma.cur with
    | some n => if dmaActive s n then dmaGo n s else .ok () (dmaIdle s)
    | none =>
      match (dmaOrder s).find? (dmaReady s) with
      | none => .ok () s
      | some n => dmaGo n s

end Sys2Proof.Machine
end

