-- ==== Sys2Proof/Machine/Agents.lean ====
section
/-! DEFINITION. The LCD controller and the camera interface as bus masters (65_peripherals_bus_masters.md R895, R905): each event
is one bus access. The Ethernet MAC is in EthAgent.lean. -/

namespace Sys2Proof.Machine

/-- A master reads the word at `a`. -/
def masterRead (a : Word) (s : State) : Res Word :=
  (busRead 4 (a.toNat / 4 * 4) s).bind fun bs s1 => .ok (s1.value bs) s1

/-- A master writes a word at `a`. -/
def masterWrite (a v : Word) (s : State) : Res Unit := busWrite (s.bytes 4 v) (a.toNat / 4 * 4) s

/-! ### LCD (R895) -/

/-- LCDDAn, LCDSAn, LCDFIDn, LCDCMDn: register `k` of channel `c`. -/
def lcdReg (c : BitVec 1) (k : Nat) : Nat := Adr.LCDDA0 + 0x10 * c.toNat + 4 * k

/-- An LCD channel. -/
def lcdChannel (s : State) (c : BitVec 1) : LcdChannel := s.dev.lcd.ch[c.toNat]'c.isLt

/-- Channel `c` runs: the LCD is enabled, or still inside a descriptor while DIS disables it (R893); channel 1 belongs to the
dual-panel STN modes. -/
def lcdRuns (s : State) (c : BitVec 1) : Bool :=
  let m := field (s.ioGet Adr.LCDCFG) 0 4
  bit (s.ioGet Adr.LCDCTRL) 3 && (!bit (s.ioGet Adr.LCDCTRL) 4 || (lcdChannel s c).phase != 0) && deviceRuns s .lcd &&
    (c == 0 || m == 10 || m == 11)

/-- R895: set LCDSTATE bit `i` and copy the frame ID when `c` asks for the interrupt. -/
def lcdFrameBit (want : Bool) (i : Nat) (c : BitVec 1) (s : State) : State :=
  if want then (s.ioMod Adr.LCDSTATE (one i) 0).ioSet Adr.LCDIID (s.ioGet (lcdReg c 2)) else s

/-- R895: two entries enter the palette RAM of 256 half-words, the low half first, behind the older ones, of which the oldest leave
(log entry 28). -/
def lcdPalette (w : Word) (s : State) : State :=
  let p := s.dev.lcd.palette ++ [w.extractLsb' 0 16, w.extractLsb' 16 16]
  { s with dev := { s.dev with lcd := { s.dev.lcd with palette := p.drop (p.length - 256) } } }

/-- R530: the bits of a descriptor word that the register of word `k` has: the reserved bits of LCDCMD and CIMCMD read 0. -/
def descMask (k : Nat) : Word := if k = 3 then 0xD0FFFFFF else 0xFFFFFFFF

/-- R895: the next word of the descriptor. One with LEN = 0 reads no data and sets neither SOF nor EOF (log entry 28). -/
def lcdFetch (c : BitVec 1) (d : LcdChannel) (s : State) : Res Unit :=
  let base := if d.phase = 0 then s.ioGet (lcdReg c 0) else d.desc
  (masterRead (base + BitVec.ofNat 32 (4 * d.phase)) s).bind fun w s1 =>
    let s2 := s1.ioSet (lcdReg c d.phase) (w &&& descMask d.phase)
    if d.phase = 3 then
      let len := field w 0 24
      .ok () (s2.setLcd c { d with phase := (if len = 0 then 0 else 4), cursor := s2.ioGet (lcdReg c 1), left := len,
                                   first := true })
    else .ok () (s2.setLcd c { d with phase := d.phase + 1, desc := base })

/-- R895: a data word. -/
def lcdData (c : BitVec 1) (d : LcdChannel) (s : State) : Res Unit :=
  let cmd := s.ioGet (lcdReg c 3)
  (masterRead d.cursor s).bind fun w s1 =>
    let s2 := lcdFrameBit (d.first && bit cmd 31) 4 c s1
    let s3 := if bit cmd 28 then lcdPalette w s2 else s2
    let s4 := lcdFrameBit (d.left == 1 && bit cmd 30) 5 c s3
    .ok () (s4.setLcd c { d with phase := (if d.left = 1 then 0 else 4), cursor := d.cursor + 4, left := d.left - 1,
                                 first := false })

/-- One bus access of LCD channel `c`. -/
def lcdStep (c : BitVec 1) (s : State) : Res Unit :=
  let d := lcdChannel s c
  if !lcdRuns s c then .ok () s else if d.phase < 4 then lcdFetch c d s else lcdData c d s

/-! ### CIM (R905) -/

/-- CIMDA, CIMFA, CIMFID, CIMCMD. -/
def cimReg (k : Nat) : Nat := Adr.CIMDA + 4 * k

/-- R904: set CIMST bit `i`; CIMIID takes the frame ID unless the bit was still set. The bit that holds CIMIID is that of the same
interrupt, so that an end of frame replaces the ID of a start not yet cleared (log entry 28). -/
def cimFrameBit (want : Bool) (i : Nat) (s : State) : State :=
  if want then
    (if bit (s.ioGet Adr.CIMST) i then s else s.ioSet Adr.CIMIID (s.ioGet Adr.CIMFID)).ioMod Adr.CIMST (one i) 0
  else s

/-- R904, R905: the bits of a descriptor word that the CIM's register of word `k` has; CIMDA has no bits 3:0 (log entry 28). -/
def cimMask (k : Nat) : Word := if k = 0 then 0xFFFFFFF0 else descMask k

/-- R905: a word of the descriptor. LEN = 0 is refused. -/
def cimFetch (s : State) : Res Unit :=
  let d := s.dev.cim
  let base := if d.phase = 0 then s.ioGet Adr.CIMDA else d.desc
  (masterRead (base + BitVec.ofNat 32 (4 * d.phase)) s).bind fun w s1 =>
    let s2 := s1.ioSet (cimReg d.phase) (w &&& cimMask d.phase)
    let e := s2.dev.cim
    if d.phase < 3 then .ok () (s2.setCim { e with phase := d.phase + 1, desc := base })
    else if field w 0 24 = 0 then .refused .reservedCim
    else .ok () (s2.setCim { e with phase := 0, loaded := true, first := true })

/-- R905: the end of a descriptor. -/
def cimEnd (cmd : Word) (s : State) : State :=
  let s1 := cimFrameBit (bit cmd 30) 5 s
  let d := s1.dev.cim
  if bit cmd 28 then (s1.ioMod Adr.CIMST (one 4) 0).setCim { d with loaded := false, stopped := true }
  else s1.setCim { d with loaded := false }

/-- R905: a word goes from RXFIFO to the frame buffer. -/
def cimMove (w : Word) (rest : List Word) (s : State) : Res Unit :=
  let cmd := s.ioGet Adr.CIMCMD
  let fa := s.ioGet Adr.CIMFA
  let s1 := cimFrameBit (s.dev.cim.first && bit cmd 31) 6 s
  (masterWrite fa w s1).bind fun _ s2 =>
    let cmd1 := putField cmd 0 24 (BitVec.ofNat 32 (field cmd 0 24 - 1))
    let s3 := ((s2.ioSet Adr.CIMFA (fa + 4)).ioSet Adr.CIMCMD cmd1).setCim { s2.dev.cim with rx := rest, first := false }
    .ok () (if field cmd1 0 24 = 0 then cimEnd cmd1 s3 else s3)

/-- One bus access of the CIM; a module that is being disabled fetches no descriptor (R906). -/
def cimStep (s : State) : Res Unit :=
  let c := s.ioGet Adr.CIMCR
  let d := s.dev.cim
  if !((bit c 0 || d.closing) && bit c 2 && deviceRuns s .cim) || d.stopped then .ok () s
  else if !d.loaded then (if d.closing then .ok () s else cimFetch s)
  else
    match d.rx with
    | [] => .ok () s
    | w :: rest => cimMove w rest s

end Sys2Proof.Machine
end

