-- ==== Sys2Proof/Machine/EthAgent.lean ====
section
/-! DEFINITION. The Ethernet MAC as a bus master (65_peripherals_bus_masters.md R923 to R926): each event is one bus access. -/

namespace Sys2Proof.Machine

/-! ### Accesses -/

/-- MAC_BMR.DBO. -/
def ethDbo (s : State) : Bool := bit (s.ioGet Adr.MAC_BMR) 20

/-- A buffer's byte order (MAC_BMR.BLE) differs from the bus's: bytes are swapped inside each word. -/
def ethSwap (s : State) : Bool := bit (s.ioGet Adr.MAC_BMR) 7 != s.params.bigEndian

/-- The address of a buffer byte. -/
def ethByteAddr (s : State) (a : Nat) : Nat := if ethSwap s then a ^^^ 3 else a

/-- EB of the two directions. -/
def ebTx : Word := 1
/-- Rx Abort. -/
def ebRx : Word := 2

/-- Run a bus access of the MAC; one that nothing answers (`target`) is a bus error. -/
def ethAccess (eb : Word) (target : Route) (s : State) (k : Res Unit) : Res Unit :=
  if target == .nothing then .ok () (ethBusError eb s) else k

/-- Word `n` of the descriptor at `d`. -/
def ethReadDesc (eb d : Word) (n : Nat) (s : State) (k : Word → State → Res Unit) : Res Unit :=
  let pa := (d.toNat + 4 * n) / 4 * 4
  ethAccess eb (readRoute s pa) s ((busRead 4 pa s).bind fun bs s1 => k (assemble (ethDbo s1) bs) s1)

/-- Write word 0 of the descriptor at `d`. -/
def ethWriteDesc (eb d v : Word) (s : State) (k : State → Res Unit) : Res Unit :=
  let pa := d.toNat / 4 * 4
  ethAccess eb (writeRoute s pa) s ((busWrite (split (ethDbo s) 4 v) pa s).bind fun _ s1 => k s1)

/-- The bytes of the next buffer access: a word when it is aligned and wanted whole, else one byte. -/
def ethChunk (a left : Nat) : Nat := if a % 4 = 0 ∧ 4 ≤ left then 4 else 1

/-- Store descriptor word `n`. -/
def EthDma.putWord (d : EthDma) (n : Nat) (w : Word) : EthDma :=
  match n with
  | 0 => { d with des0 := w }
  | 1 => { d with des1 := w }
  | 2 => { d with des2 := w }
  | _ => { d with des3 := w }

/-! ### Transmission -/

/-- R926: a word of the transmit descriptor. -/
def ethTxFetch (n : Nat) (s : State) : Res Unit :=
  ethReadDesc ebTx s.dev.eth.tx.desc n s fun w s1 =>
    let s2 := s1.setTx { s1.dev.eth.tx.putWord n w with phase := .fetch (n + 1) }
    if n = 0 then .ok () (if bit w 31 then s2 else ethTxSuspend (ethRaise (one 2) s1))
    else .ok () (if n < 3 then s2 else ethTxBuffer1 s2)

/-- R926: bytes of a transmit buffer at `a` of `size` bytes. -/
def ethTxMove (a : Word) (size : Nat) (next : State → State) (s : State) : Res Unit :=
  let d := s.dev.eth.tx
  let at' := (a.toNat + d.done) % 2 ^ 32
  let n := ethChunk at' (size - d.done)
  let pa := if n = 4 then at' else ethByteAddr s at'
  ethAccess ebTx (readRoute s pa) s
    ((busRead n pa s).bind fun bs s1 =>
      let e := s1.dev.eth.tx
      let got := if n = 4 && ethSwap s1 then bs.reverse else bs
      let s2 := (s1.ioSet Adr.MAC_HTAR (BitVec.ofNat 32 at')).setTx { e with frame := e.frame ++ got, done := e.done + n }
      .ok () (if size ≤ e.done + n then next s2 else s2))

/-- R925: a descriptor whose buffers are empty goes back to the host; the frame goes on in the next one. -/
def ethTxRelease (s : State) : Res Unit :=
  let d := s.dev.eth.tx
  ethWriteDesc ebTx d.desc 0 s fun s1 =>
    .ok () (ethTs 1 (s1.setTx { s1.dev.eth.tx with phase := .fetch 0, desc := ethNext Adr.MAC_TBAR d s1 }))

/-- R914, R917: what the MAC takes of the wire's report `ev` on the frame `w`: with store and forward no underflow. -/
def ethTaken (w : EthDma) (ev : Word) (s : State) : Word :=
  ethReport s ((if ethStoreForward s then ev &&& ~~~2 else ev) ||| w.status)

/-- R925: TDES0 of the frame on the wire. The first report ends it, and all its descriptors get the same status. -/
def ethTxStatus (w : EthDma) (ev : Word) (s : State) : Word := if w.opening then ethTdes0 (ethTaken w ev s) else w.status

/-- R917, R925, R926: the status of the frame on the wire goes into its descriptors, one at a time; the transmitter must be
enabled. A frame that is sent again (LCC) stays on the wire until its next report. -/
def ethTxClose (ev : Word) (s : State) : Res Unit :=
  match s.dev.eth.sent with
  | none => .ok () s
  | some w =>
    let status := ethTxStatus w ev s
    if !ethTxEnabled s || (w.opening && ethResends s (ethTaken w ev s)) then .ok () s
    else
      match w.used with
      | [] => .ok () (ethTxFinish w status s)
      | a :: rest =>
        ethWriteDesc ebTx a status s fun s1 =>
          let w1 := { w with used := rest, status := status, opening := false }
          .ok () (if rest.isEmpty then ethTxFinish w1 status s1 else s1.setEth { s1.dev.eth with sent := some w1 })

/-- R917, R926: the process waits: a complete frame goes to the wire when it takes one, or the frame on the wire ends. -/
def ethTxWait (ev : Word) (s : State) : Res Unit :=
  let d := s.dev.eth.tx
  if d.first && ethWireFree s then .ok () (ethTxToWire d s) else ethTxClose ev s

/-- One step of the transmit process. -/
def ethTxStep (status : Word) (s : State) : Res Unit :=
  let d := s.dev.eth.tx
  if !ethDmaRuns s then .ok () s
  else
    match d.phase with
    | .fetch n => ethTxFetch n s
    | .buffer1 => ethTxMove d.des2 d.size1 ethTxBuffer2 s
    | .buffer2 => ethTxMove d.des3 d.size2 ethTxDescDone s
    | .release => ethTxRelease s
    | .close => ethTxWait status s
    | .suspended => ethTxClose status s
    | _ => .ok () s

/-! ### Reception -/

/-- R926: the host owns the next descriptor: with no frame under way the process is suspended; a frame under way is flushed (R913:
RS = 110) and truncated (DE), and `ioc` says that the process suspends after it. -/
def ethRxNoDescriptor (s : State) : State :=
  let d := s.dev.eth.rx
  if d.used.isEmpty then ethRxSuspend s
  else ethRs 6 (s.setRx { d with phase := .close, frame := [], status := d.status ||| 0xC000, ioc := true })

/-- R926: a word of the receive descriptor. The descriptor before it, if the frame goes on, is full and goes back first. -/
def ethRxFetch (n : Nat) (s : State) : Res Unit :=
  ethReadDesc ebRx s.dev.eth.rx.desc n s fun w s1 =>
    let d := s1.dev.eth.rx.putWord n w
    if n = 0 then
      .ok () (if bit w 31 then s1.setRx { d with phase := if d.used.isEmpty then .fetch 1 else .release } else ethRxNoDescriptor s1)
    else .ok () (if n < 3 then s1.setRx { d with phase := .fetch (n + 1) } else ethRxReady (s1.setRx d))

/-- R924: RDES0 of a descriptor that goes back: FS in the first of a frame. -/
def ethRxStatus (d : EthDma) (v : Word) : Word := v ||| flag d.opening 9

/-- R924: the descriptors that are full go back to the host. -/
def ethRxRelease (s : State) : Res Unit :=
  let d := s.dev.eth.rx
  match d.used with
  | [] => .ok () (s.setRx { d with phase := .fetch 1 })
  | a :: _ =>
    ethWriteDesc ebRx a (ethRxStatus d 0) s fun s1 =>
      .ok () (s1.setRx { s1.dev.eth.rx with phase := .fetch 1, used := [], opening := false })

/-- R913: ERI when the first data buffer of a packet is full. -/
def ethRxFull (s : State) : State :=
  let d := s.dev.eth.rx
  if d.first then (ethRaise (one 14) s).setRx { d with first := false } else s

/-- R926: bytes of the frame go into a buffer at `a` of `size` bytes. -/
def ethRxMove (a : Word) (size : Nat) (next : State → State) (s : State) : Res Unit :=
  let d := s.dev.eth.rx
  let at' := (a.toNat + d.done) % 2 ^ 32
  let n := ethChunk at' (min d.frame.length (size - d.done))
  let pa := if n = 4 then at' else ethByteAddr s at'
  let put := if n = 4 && ethSwap s then (d.frame.take 4).reverse else d.frame.take n
  ethAccess ebRx (writeRoute s pa) s
    ((busWrite put pa s).bind fun _ s1 =>
      let e := s1.dev.eth.rx
      let s2 := (s1.ioSet Adr.MAC_HRAR (BitVec.ofNat 32 at')).setRx { e with frame := e.frame.drop n, done := e.done + n }
      .ok ()
        (if size ≤ e.done + n then next (ethRxFull s2)
         else if (e.frame.drop n).isEmpty then next s2 else s2))

/-- R926: the frame is complete: RI, and an extra descriptor is acquired; after a truncation the process is suspended. -/
def ethRxFinish (s : State) : State :=
  let d := s.dev.eth.rx
  let s1 := ethRaise (one 6) s
  if d.ioc then ethRxSuspend s1 else ethRxStart d.desc s1

/-- R924, R926: the last descriptor of the frame gets LS, length and status. -/
def ethRxClose (s : State) : Res Unit :=
  let d := s.dev.eth.rx
  match d.used with
  | [] => .ok () (ethRxFinish s)
  | a :: _ => ethWriteDesc ebRx a (ethRxStatus d (d.status ||| one 8)) s fun s1 => .ok () (ethRxFinish s1)

/-- One step of the receive process. -/
def ethRxStep (s : State) : Res Unit :=
  let d := s.dev.eth.rx
  if !ethDmaRuns s then .ok () s
  else
    match d.phase with
    | .fetch n => ethRxFetch n s
    | .buffer1 => ethRxMove d.des2 d.size1 ethRxBuffer2 s
    | .buffer2 => ethRxMove d.des3 d.size2 ethRxDescDone s
    | .release => ethRxRelease s
    | .close => ethRxClose s
    | _ => .ok () s

end Sys2Proof.Machine
end

