-- ==== Sys2Proof/Machine/Probe.lean ====
section
/-! DEFINITION. What the probe does through the core TAP (62_ejtag.md R631, R632, R640 to R646). -/

namespace Sys2Proof.Machine

/-- R641: AM is cleared. An access of ACC mode, pending or answered, is withdrawn, and the core makes it again in MIPS mode
(log entry 17). -/
def Ejtag.leaveAcc (e : Ejtag) : Ejtag :=
  if e.am then { e with am := false, ecrA := e.ecrA &&& 2, burst := [], answer := none, held := none } else e

/-- R640, R641, R646: UPDATE_IR. NORMALBOOT clears AM at once (log entry 17). -/
def Ejtag.selectIr (e : Ejtag) (code : BitVec 5) : Ejtag :=
  match code.toNat with
  | 0x0C => { e with tapIr := code, boot := .ejtag }
  | 0x0D => { e.leaveAcc with tapIr := code, boot := .normal }
  | 0x1C => { e with tapIr := code, boot := .ejtagAcc }
  | _ => { e with tapIr := code }

/-- R642: the ECR bits that the probe's value replaces: PerRst, PrRst, ProbEn, ProbTrap (log entry 33). -/
def ecrMask : Word := 0x0011C000

/-- R631, R642: the probe writes ECR. Rocc and PrAcc are cleared by 0, EjtagBrk is set by 1, and a 0 leaves its request pending
(log entry 33); the end of PrAcc hands the data to the core. -/
def Ejtag.writeEcr (e : Ejtag) (v : Word) : Ejtag :=
  let finished := bit e.ecr 18 && !bit v 18
  { e with
    ecr := ((e.ecr &&& ~~~ecrMask &&& (v ||| ~~~(0x80040000#32))) ||| (v &&& ecrMask)) ||| (v &&& one 12),
    answer := if finished then some [e.data] else e.answer }

/-- R644: the words a pending access of ACC mode still wants, in all. -/
def Ejtag.beats (e : Ejtag) : Nat := if e.addressA.extractLsb' 35 2 = 2#2 then 8 else 1

/-- R632, R645: one word of the pending access of ACC mode is there; the last one ends the access. -/
def Ejtag.deliver (e : Ejtag) (w : Word) : Ejtag :=
  let ws := e.burst ++ [w]
  if ws.length < e.beats then { e with burst := ws }
  else { e with burst := [], ecrA := e.ecrA &&& 2, answer := some ws }

/-- R631, R632, R645: the probe writes DATA or DATA_A; in ACC mode RDY serves a pending access, whether the TAP selects DATA_A alone
or ALL (log entry 17). -/
def Ejtag.writeData (e : Ejtag) (v : BitVec 33) : Ejtag :=
  if e.am then
    let e1 := { e with dataA := v }
    if v.getLsbD 32 && e.ecrA.getLsbD 0 then e1.deliver (v.setWidth 32) else e1
  else { e with data := v.setWidth 32 }

/-! ### Data registers (R640) -/

/-- What lies between TDI and TDO. -/
inductive TapReg where
  | idcode | impcode | address | data | control | all | bypass
deriving DecidableEq, Repr

/-- R640: the register an instruction selects; any other code selects Bypass. -/
def tapReg (ir : BitVec 5) : TapReg :=
  match ir.toNat with
  | 0x01 => .idcode
  | 0x03 => .impcode
  | 0x08 => .address
  | 0x09 => .data
  | 0x0A => .control
  | 0x0B => .all
  | _ => .bypass

/-- R642: ECR as the probe reads it: Doze while the core waits, Halt while the buses stand still, DM (log entry 33). -/
def ecrRead (s : State) : Word := s.ejtag.ecr ||| flag s.waiting 22 ||| flag (!busRuns s) 21 ||| flag s.dm 3

/-- R640: the width of a register and what is shifted out of it, bit 0 first at TDO. RDY, bit 32 of DATA_A, gives what was last
written to it (log entry 17). -/
def tapCapture (s : State) : TapReg → Nat × Nat
  | .idcode => (32, Config.idcode.toNat)
  | .impcode => (32, Config.impcode.toNat)
  | .address => if s.ejtag.am then (37, s.ejtag.addressA.toNat) else (32, s.ejtag.address.toNat)
  | .data => if s.ejtag.am then (33, s.ejtag.dataA.toNat) else (32, s.ejtag.data.toNat)
  | .control => if s.ejtag.am then (2, s.ejtag.ecrA.toNat) else (32, (ecrRead s).toNat)
  | .all =>
    if s.ejtag.am then (72, (s.ejtag.dataA ++ s.ejtag.addressA ++ s.ejtag.ecrA).toNat)
    else (96, (s.ejtag.address ++ s.ejtag.data ++ ecrRead s).toNat)
  | .bypass => (1, 0)

/-- One probe operation; a data register is reached only while the TAP selects it (R640). A TAP reset clears AM (R641) and
withdraws a boot request (log entry 17). The probe only reads ADDRESS (log entry 33). -/
def Ejtag.probe (e : Ejtag) (op : ProbeOp) : Ejtag :=
  match op with
  | .capture => e
  | .ir code => e.selectIr code
  | .ecr v => if tapReg e.tapIr = .control && !e.am then e.writeEcr v else e
  | .data v => if tapReg e.tapIr = .data then e.writeData v else e
  | .all ecr v =>
    if tapReg e.tapIr = .all then (if e.am then e.writeData v else (e.writeData v).writeEcr ecr) else e
  | .reset => { e.leaveAcc with tapIr := 1, boot := .normal }

/-- R606: the probe reaches the core TAP only with TAP_MD = 1. -/
def probeAct (op : ProbeOp) (s : State) : State :=
  if !s.params.tapMd then s
  else
    match op with
    | .capture => { s with ejtag := { s.ejtag with scan := (tapCapture s (tapReg s.ejtag.tapIr)).2 } }
    | _ => { s with ejtag := s.ejtag.probe op }

/-- R646, R821: what a reset does to the probe-side registers: AM is kept, and set by EJTAGBOOTA; ADDRESS, DATA, ADDRESS_A,
DATA_A and the other bits of the control registers keep their values, and so does the boot selection; EJTAGBOOT with AM = 1
already boots in ACC mode (log entry 17). -/
def Ejtag.afterReset (e : Ejtag) : Ejtag :=
  { e with
    am := e.am || e.boot == .ejtagAcc,
    ecr := (e.ecr &&& ~~~(0x0004D000#32)) ||| one 31 ||| (if e.boot == .normal then 0 else 0xD000),
    ecrA := e.ecrA &&& 2, burst := [], answer := none, held := none }

end Sys2Proof.Machine
end

