-- ==== Sys2Proof/Machine/Events.lean ====
section
/-! DEFINITION. What each event of the agenda does (log entry 9). -/

namespace Sys2Proof.Machine

/-- The effect of an event other than the core's turn. The buses stand still in SLEEP and HIBERNATE (61_platform.md R545,
R549). A later reset request replaces one that still waits (log entry 19); DINT and NMI are latched (log entry 39). -/
def applyEvent (e : Event) (s : State) : Res Unit :=
  match e with
  | .core => .ok () s
  | .drain => if busRuns s then drainOne s else .ok () s
  | .powerOnReset => .ok () { s with resetReq := some .powerOn }
  | .nmi => .ok () { s with nmiReq := true }
  | .dint => .ok () { s with dintReq := true }
  | .probe op => .ok () (probeAct op s)
  | .pllLock => .ok () (pllLock s)
  | .ostTick n => .ok () (ostTick n s)
  | .ostSync n => .ok () (ostSync n s)
  | .rtcTick => .ok () (rtcTick s)
  | .rtcLand => .ok () (rtcLand s)
  | .wdtTick => .ok () (wdtTick s)
  | .refreshTick => .ok () (refreshTick s)
  | .nandReady r => .ok () (nandReady r s)
  | .gpioDrive g n l => .ok () (gpioHost g n (some l) s)
  | .gpioRelease g n => .ok () (gpioHost g n none s)
  | .dmaUnit => dmaUnit s
  | .dreq c l => .ok () (dreqPin c l s)
  | .dmaHalt c => .ok () (dmaHalt c s)
  | .uartTxStart u => .ok () (uartTxStart u s)
  | .uartTxDone u => .ok () (uartTxDone u s)
  | .uartRxChar u c => .ok () (uartRxChar u c s)
  | .uartRxIdle u => .ok () (uartRxIdle u s)
  | .uartCts u l => .ok () (uartCts u l s)
  | .pwmTick c => .ok () (pwmTick c s)
  | .i2cStart => .ok () (i2cStart s)
  | .i2cTake => .ok () (i2cTake s)
  | .i2cSent nack => .ok () (i2cSent nack s)
  | .i2cReceived b => .ok () (i2cReceived b s)
  | .i2cStop => .ok () (i2cStop s)
  | .ssiTransfer c => .ok () (ssiTransfer c s)
  | .ssiIdle i => .ok () (ssiIdle i s)
  | .sccSend => .ok () (sccSend s)
  | .sccReceive c p => .ok () (sccReceive c p s)
  | .sccStatus v => .ok () (sccStatus v s)
  | .sccEtu => .ok () (sccEtu s)
  | .kbcReceive c p m => .ok () (kbcReceive c p m s)
  | .kbcRxTimeout m => .ok () (kbcRxTimeout m s)
  | .kbcSent => .ok () (kbcSent s)
  | .kbcTxTimeout => .ok () (kbcTxTimeout s)
  | .udcIn ep => .ok () (udcIn ep s)
  | .udcOut ep setup pid frame bytes => .ok () (udcOut ep setup pid frame bytes s)
  | .udcDevice i frame => .ok () (udcDevice i frame s)
  | .udcSetConfig cfg => .ok () (udcSetConfig cfg s)
  | .udcSetInterface intf alt => .ok () (udcSetInterface intf alt s)
  | .lcdStep c => lcdStep c s
  | .lcdStatus v => .ok () (lcdStatus v s)
  | .cimStep => cimStep s
  | .cimWord w => .ok () (cimWord w s)
  | .cimDisabled => .ok () (cimDisabled s)
  | .ethTxStep status => ethTxStep status s
  | .ethRxStep => ethRxStep s
  | .ethFrame bytes status => .ok () (ethFrame bytes status s)
  | .ethMiiDone data => .ok () (ethMiiDone data s)
  | .ethPauseDone => .ok () (ethPauseDone s)
  | .ethStatus v => .ok () (ethStatus v s)
  | .ethOverflow => .ok () (ethOverflow s)
  | .aicOut => .ok () (aicOut s)
  | .aicIn v => .ok () (aicIn v s)
  | .aicCommandDone => .ok () (aicCommandDone s)
  | .aicStatus sar sdr => .ok () (aicStatus sar sdr s)
  | .aicTimeout => .ok () (aicTimeout s)
  | .aicCodec r l => .ok () (aicCodec r l s)
  | .aicBusy b => .ok () (aicBusy b s)
  | .aicSlots rs => .ok () (aicSlots rs s)
  | .mscClockStopped => .ok () (mscClockStopped s)
  | .mscResetDone => .ok () (mscResetDone s)
  | .mscCmdDone a => .ok () (mscCmdDone a s)
  | .mscDataWord w l => .ok () (mscDataWord w l s)
  | .mscTakeWord => .ok () (mscTakeWord s)
  | .mscDataDone blocks errors => .ok () (mscDataDone blocks errors s)
  | .mscPrgDone => .ok () (mscPrgDone s)
  | .mscSdioInt l => .ok () (mscSdioInt l s)
  | .mscReadWait => .ok () (mscReadWait s)

end Sys2Proof.Machine
end

