-- ==== Sys2Proof/Machine/CoreBus.lean ====
section
/-! DEFINITION. The bus transfers of the core (20_memory.md R140 to R145). Before each of them the other agents may move: the
bus is shared at the granularity of one transfer (D8, log entry 9). -/

namespace Sys2Proof.Machine

/-! ### Moves of the other agents between two transfers -/

/-- A list of events happens in order. -/
def applyEvents : List Event → State → Res Unit
  | [], s => .ok () s
  | e :: es, s => (applyEvent e s).bind fun _ s1 => applyEvents es s1

/-- R145: the events that come before the core's next bus transfer. -/
def agentsMove (s : State) : Res Unit :=
  match s.between with
  | [] => .ok () s
  | es :: rest => applyEvents es { s with between := rest }

/-! ### The write buffer (R141, R142) -/

/-- The `k` oldest stores reach the bus in order. -/
def drainTimes : Nat → State → Res Unit
  | 0, s => .ok () s
  | k + 1, s => (agentsMove s).bind fun _ s1 => (drainOne s1).bind fun _ s2 => drainTimes k s2

/-- Every buffered store reaches the bus. -/
def drainAll (s : State) : Res Unit := drainTimes s.wbuf.length s

/-- A store of the core enters the write buffer of 16 words; a full buffer first lets its oldest store go. -/
def coreWrite (bs : List Byte) (pa : Nat) (s : State) : Res Unit :=
  (if s.wbuf.length < 16 then .ok () s else drainTimes 1 s).bind fun _ s1 => .ok () { s1 with wbuf := s1.wbuf ++ [(pa, bs)] }

/-- Consecutive words enter the write buffer, the lowest address first (log entry 9). -/
def coreWriteWords (pa : Nat) : List (List Byte) → State → Res Unit
  | [], s => .ok () s
  | bs :: rest, s => (coreWrite bs pa s).bind fun _ s1 => coreWriteWords (pa + 4) rest s1

/-- The stores up to the last one that goes to a device. -/
def deviceStores (s : State) : Nat → List (Nat × List Byte) → Nat
  | _, [] => 0
  | i, (pa, _) :: rest =>
    match route s pa with
    | .cell _ _ => deviceStores s (i + 1) rest
    | _ => max (i + 1) (deviceStores s (i + 1) rest)

/-- R552: the stores to devices reach the bus, and with them every store before them. -/
def drainDevices (s : State) : Res Unit := drainTimes (deviceStores s 0 s.wbuf) s

/-! ### Reads -/

/-- One read transfer of the core. -/
def transferRead (n pa : Nat) (s : State) : Res (List Byte) := (agentsMove s).bind fun _ s1 => busRead n pa s1

/-- The core reads `k` consecutive words, one transfer each, the lowest address first (log entry 9). -/
def transferWords (pa : Nat) : Nat → State → Res (List Byte)
  | 0, s => .ok [] s
  | k + 1, s =>
    (transferRead 4 pa s).bind fun bs s1 => (transferWords (pa + 4) k s1).bind fun rest s2 => .ok (bs ++ rest) s2

/-- A data read of the core: every earlier store reaches the bus first (R142). -/
def coreRead (n pa : Nat) (s : State) : Res (List Byte) := (drainAll s).bind fun _ s1 => transferRead n pa s1

/-- A data read of `k` consecutive words. -/
def coreReadWords (pa k : Nat) (s : State) : Res (List Byte) := (drainAll s).bind fun _ s1 => transferWords pa k s1

end Sys2Proof.Machine
end

