-- ==== Sys2Proof/Machine/Cache.lean ====
section
/-! DEFINITION. The instruction and data caches (20_memory.md R130 to R134). Lines are kept under 4 * set + way. -/

namespace Sys2Proof.Machine

/-- R130: sets per way. -/
def cacheSets : CacheSize → Nat
  | .k4 => 32
  | .k8 => 64
  | .k16 => 128

/-- What an unlisted line is. -/
def lineDefault (_ : Nat) : CacheLine := .empty

/-- A data cache line. -/
def State.dline (s : State) (k : Nat) : CacheLine := Sparse.get lineDefault k s.dcache

/-- Replace a data cache line. -/
def State.setDline (s : State) (k : Nat) (l : CacheLine) : State := { s with dcache := Sparse.set lineDefault k l s.dcache }

/-- An instruction cache line. -/
def State.iline (s : State) (k : Nat) : CacheLine := Sparse.get lineDefault k s.icache

/-- Replace an instruction cache line. -/
def State.setIline (s : State) (k : Nat) (l : CacheLine) : State := { s with icache := Sparse.set lineDefault k l s.icache }

/-- R130: the set of an address. -/
def setOf (c : CacheSize) (a : Nat) : Nat := a / 32 % cacheSets c

/-- R388: the way an Index operation names. -/
def wayOf (c : CacheSize) (a : Nat) : Nat := a / (32 * cacheSets c) % 4

/-- R130: the tag of a physical address, PA[31:10]. -/
def tagOf (pa : Nat) : BitVec 22 := BitVec.ofNat 22 (pa / 1024)

/-- The memory address a line stands for: its tag, and the index bits below the tag. -/
def lineAddr (set : Nat) (l : CacheLine) : Nat := l.tag.toNat * 1024 + set % 32 * 32

/-- A line holds physical address `pa`. -/
def CacheLine.holds (l : CacheLine) (pa : Nat) : Bool := l.valid && l.tag == tagOf pa

/-- The way of a set that holds `pa`; the lowest one when several do (log entry 18). -/
def findWay (line : Nat → CacheLine) (set pa : Nat) : Option Nat :=
  [0, 1, 2, 3].find? fun w => (line (4 * set + w)).holds pa

/-- R130, U12: the way a refill uses: any invalid way, or any way when all are valid. -/
def victimWay (line : Nat → CacheLine) (set : Nat) (free : Word) : Nat :=
  let inv := [0, 1, 2, 3].filter fun w => !(line (4 * set + w)).valid
  match inv with
  | [] => free.toNat % 4
  | _ => inv[free.toNat % inv.length]?.getD 0

/-- `n` bytes of a line from offset `o`. -/
def CacheLine.read (l : CacheLine) (o : Nat) : Nat → List Byte
  | 0 => []
  | n + 1 => l.data[o % 32]'(Nat.mod_lt _ (by decide)) :: l.read (o + 1) n

/-- Write bytes in a line from offset `o`. -/
def CacheLine.write (l : CacheLine) (o : Nat) : List Byte → CacheLine
  | [] => l
  | b :: bs => CacheLine.write { l with data := l.data.set (o % 32) b (Nat.mod_lt _ (by decide)) } (o + 1) bs

/-- Consecutive words of a list of bytes. -/
def chunk4 : Nat → List Byte → List (List Byte)
  | 0, _ => []
  | n + 1, bs => bs.take 4 :: chunk4 n (bs.drop 4)

/-- A line just filled with the bytes of memory; its lock bit is 0 (log entry 18). -/
def filledLine (pa : Nat) (bs : List Byte) : CacheLine :=
  CacheLine.write { CacheLine.empty with valid := true, tag := tagOf pa } 0 bs

/-- R131: the line's bytes go to memory through the write buffer; a line of a device address is refused (R126). -/
def writeBack (set : Nat) (l : CacheLine) (s : State) : Res Unit :=
  if cacheable s (lineAddr set l) then coreWriteWords (lineAddr set l) (chunk4 8 (l.read 0 32)) s
  else .refused .cachedDevice

/-- R126: a cached access to what may not be cached is refused, whether or not a line holds the address. -/
def cachedAccess {α : Type} (pa : Nat) (k : State → Res α) (s : State) : Res α :=
  if cacheable s pa then k s else .refused .cachedDevice

/-- Write a line back when it is valid and dirty. -/
def writeBackDirty (set : Nat) (l : CacheLine) (s : State) : Res Unit :=
  if l.valid && l.dirty then writeBack set l s else .ok () s

/-- R131: fill a way of the data cache with the line of `pa`. The victim is written back first when it is dirty. Answers the
line's key. -/
def dRefill (pa : Nat) (s : State) : Res Nat :=
  let set := setOf s.params.dcache pa
  let key := 4 * set + victimWay s.dline set s.draw
  (writeBackDirty set (s.dline key) (s.drawn 1)).bind fun _ s1 =>
    (coreReadWords (pa / 32 * 32) 8 s1).bind fun bs s2 => .ok key (s2.setDline key (filledLine pa bs))

/-- The key of the data cache line that holds `pa`, after a refill on a miss. -/
def dLookup (pa : Nat) (s : State) : Res Nat :=
  cachedAccess pa (fun s1 =>
    let set := setOf s1.params.dcache pa
    match findWay s1.dline set pa with
    | some w => .ok (4 * set + w) s1
    | none => dRefill pa s1) s

/-- R131: DCacheRead. -/
def dcacheRead (n pa : Nat) (s : State) : Res (List Byte) :=
  (dLookup pa s).bind fun key s1 => .ok ((s1.dline key).read (pa % 32) n) s1

/-- R131: update a line that holds `pa`. A line that is dirty stays dirty (log entry 18). -/
def updateLine (key pa : Nat) (bs : List Byte) (dirty : Bool) (s : State) : State :=
  let l := (s.dline key).write (pa % 32) bs
  s.setDline key { l with dirty := l.dirty || dirty }

/-- R132: cache attributes 0 and 1 write through. -/
def writeThrough (cca : BitVec 3) : Bool := cca == 0 || cca == 1

/-- R114: cache attributes 2 and 7 are uncached. -/
def uncached (cca : BitVec 3) : Bool := cca == 2 || cca == 7

/-- R132: a write-through store updates the line that holds `pa`, if one does. -/
def updateHit (pa : Nat) (bs : List Byte) (s : State) : State :=
  match findWay s.dline (setOf s.params.dcache pa) pa with
  | some w => updateLine (4 * setOf s.params.dcache pa + w) pa bs false s
  | none => s

/-- R132: DCacheWrite. -/
def dcacheWrite (bs : List Byte) (pa : Nat) (cca : BitVec 3) (s : State) : Res Unit :=
  if writeThrough cca then cachedAccess pa (fun s1 => coreWrite bs pa (updateHit pa bs s1)) s
  else (dLookup pa s).bind fun key s1 => .ok () (updateLine key pa bs true s1)

/-- R133: fill a way of the instruction cache with the line of `pa`; it does not wait for buffered stores (R143). -/
def iRefill (pa : Nat) (s : State) : Res Nat :=
  let set := setOf s.params.icache pa
  let key := 4 * set + victimWay s.iline set s.draw
  (transferWords (pa / 32 * 32) 8 (s.drawn 1)).bind fun bs s1 => .ok key (s1.setIline key (filledLine pa bs))

/-- The key of the instruction cache line that holds `pa`, after a refill on a miss. -/
def iLookup (pa : Nat) (s : State) : Res Nat :=
  cachedAccess pa (fun s1 =>
    let set := setOf s1.params.icache pa
    match findWay s1.iline set pa with
    | some w => .ok (4 * set + w) s1
    | none => iRefill pa s1) s

/-- R133: ICacheRead. -/
def icacheRead (pa : Nat) (s : State) : Res (List Byte) :=
  (iLookup pa s).bind fun key s1 => .ok ((s1.iline key).read (pa % 32) 4) s1

end Sys2Proof.Machine
end

