-- ==== Sys2Proof/Machine/Mmu.lean ====
section
/-! DEFINITION. Virtual segments, the TLB lookup, translation, and the watch registers (20_memory.md R105 to R114,
60_exceptions.md R491). -/

namespace Sys2Proof.Machine

/-- What an access is (R110). -/
inductive Kind where
  | fetch | load | store
deriving DecidableEq, Repr

/-- R104, R106: the address error of an access. -/
def Kind.addrError (k : Kind) (va : Word) : Exc := if k = .store then .ades va else .adel va

/-- R111, R112: the TLB exception of an access. -/
def Kind.tlbError (k : Kind) (va : Word) (refill : Bool) : Exc := if k = .store then .tlbs va refill else .tlbl va refill

/-- The VPN2 bits a page mask leaves to compare (R110). -/
def vpnMask (m : BitVec 12) : BitVec 19 := ~~~(m.setWidth 19)

/-- va[31:13]. -/
def vpn2Of (va : Word) : BitVec 19 := va.extractLsb' 13 19

/-- R110: the entry matches a virtual page pair in an address space. -/
def TlbEntry.hits (e : TlbEntry) (vpn2 : BitVec 19) (asid : BitVec 8) : Bool :=
  vpn2 &&& vpnMask e.mask == e.vpn2 &&& vpnMask e.mask && (e.g || e.asid == asid)

/-- The entries of the TLB (R65). -/
def State.tlbEntries (s : State) : List TlbEntry := s.tlb.toList.take (s.params.lastIndex + 1)

/-- R110: the last matching entry. -/
def State.tlbFind (s : State) (va : Word) : Option TlbEntry :=
  s.tlbEntries.foldl (fun found e => if e.hits (vpn2Of va) s.asid then some e else found) none

/-- R110: EvenOddBit of the seven page sizes. -/
def evenOddBit (m : BitVec 12) : Nat :=
  match m.toNat with
  | 0x003 => 14
  | 0x00F => 16
  | 0x03F => 18
  | 0x0FF => 20
  | 0x3FF => 22
  | 0xFFF => 24
  | _ => 12

/-- One page of an entry. -/
structure Page where
  pfn : BitVec 20
  c : BitVec 3
  d : Bool
  v : Bool
deriving DecidableEq, Repr

/-- R110: the even or odd page of an entry. -/
def TlbEntry.page (e : TlbEntry) (odd : Bool) : Page :=
  if odd then ⟨e.pfn1, e.c1, e.d1, e.v1⟩ else ⟨e.pfn0, e.c0, e.d0, e.v0⟩

/-- R110: the physical address from a frame number and the page offset. -/
def physical (pfn : BitVec 20) (eob : Nat) (va : Word) : Word :=
  BitVec.ofNat 32 (pfn.toNat * 4096 / 2 ^ eob * 2 ^ eob + va.toNat % 2 ^ eob)

/-- R110: TLBLookup. While Status.TS = 1 the entries that the TLB holds go on translating (R492, log entry 49). -/
def tlbLookup (va : Word) (k : Kind) (s : State) : Res (Word × BitVec 3) :=
  match s.tlbFind va with
  | none => .exc (k.tlbError va true) s
  | some e =>
    let eob := evenOddBit e.mask
    let p := e.page (bit va eob)
    if !p.v then .exc (k.tlbError va false) s
    else if k = .store ∧ !p.d then .exc (.mod va) s
    else .ok (physical p.pfn eob va, p.c) s

/-- R105: the segments by bits 31:29 of an address. -/
def inKuseg (va : Word) : Bool := !bit va 31
/-- kseg0 -/
def inKseg0 (va : Word) : Bool := va.extractLsb' 29 3 == 4#3
/-- kseg1 -/
def inKseg1 (va : Word) : Bool := va.extractLsb' 29 3 == 5#3

/-- R109, R630: the address is in dseg, in debug mode. -/
def inDseg (va : Word) (s : State) : Bool :=
  s.dm && (va.extractLsb' 21 11 == 0x7F9#11 || (s.ejtag.am && va.extractLsb' 24 8 == 0xFF#8))

/-- R630: drseg. -/
def inDrseg (va : Word) : Bool := va.extractLsb' 20 12 == 0xFF3#12

/-- R114: Translate, outside dseg: physical address and cache attribute. -/
def translate (va : Word) (k : Kind) (s : State) : Res (Word × BitVec 3) :=
  if s.userMode && bit va 31 then .exc (k.addrError va) s
  else if inKseg0 va then .ok (va &&& 0x1FFFFFFF, s.cp0.k0) s
  else if inKseg1 va then .ok (va &&& 0x1FFFFFFF, 2) s
  else if inKuseg va && s.erl then .ok (va, 2) s
  else tlbLookup va k s

/-- The bit of WatchLo that enables a kind of access, and of WatchHi that reports it (R55, R56). -/
def Kind.watchBit : Kind → Nat
  | .fetch => 2
  | .load => 1
  | .store => 0

/-- R491: WatchMatch. -/
def watchMatch (va : Word) (k : Kind) (s : State) : Bool :=
  let hi := s.cp0.watchHi
  let keep : Word := ~~~(hi &&& 0x00000FF8) &&& 0xFFFFFFF8
  bit s.cp0.watchLo k.watchBit && !s.dm && (va &&& keep == s.cp0.watchLo &&& keep) &&
    (bit hi 30 || hi.extractLsb' 16 8 == s.asid)

/-- R491: a match raises WATCH, or is deferred while EXL or ERL is 1. -/
def watchCheck (va : Word) (k : Kind) (s : State) : Res Unit :=
  if watchMatch va k s then
    let hi := setBit s.cp0.watchHi k.watchBit true
    if s.exl || s.erl then .ok () (s.withCp0 { s.cp0 with watchHi := hi, cause := setBit s.cp0.cause 22 true })
    else .exc .watch (s.withCp0 { s.cp0 with watchHi := hi })
  else .ok () s

end Sys2Proof.Machine
end

