-- ==== Sys2Proof/Machine/Mem.lean ====
section
/-! DEFINITION. The access primitives MemRead, MemWrite and Fetch (20_memory.md R120 to R122), hardware breakpoints, and the
debug segment (62_ejtag.md R630 to R635). -/

namespace Sys2Proof.Machine

/-! ### Byte lanes -/

/-- The bytes of an access inside one aligned word: `n` bytes from offset `lo`. -/
structure Lanes where
  lo : Nat
  n : Nat
deriving DecidableEq, Repr

/-- R101, R102: the bytes of an aligned access of `n` bytes at `va`. -/
def plainLanes (s : State) (va : Word) (n : Nat) : Lanes :=
  let o := va.toNat % 4
  ⟨if s.reverseEndian && n < 4 then o ^^^ (4 - n) else o, n⟩

/-- R365: the bytes that hold `n` bytes of the word's value, from value byte `sh` up. -/
def valueLanes (s : State) (sh n : Nat) : Lanes := ⟨if s.params.bigEndian then 4 - n - sh else sh, n⟩

/-- The value byte at which the lanes of an access start. -/
def Lanes.shift (l : Lanes) (be : Bool) : Nat := if be then 4 - l.n - l.lo else l.lo

/-- The physical address of the first byte of an access. -/
def Lanes.addr (l : Lanes) (pa : Word) : Nat := pa.toNat / 4 * 4 + l.lo

/-! ### drseg (R633) -/

/-- R633: the word at a drseg address, `none` where there is no register (U31). -/
def drsegGet (va : Word) (s : State) : Option Word :=
  let d := s.drseg
  match (va.extractLsb' 0 20).toNat with
  | 0x00000 =>
    some (flag s.params.bigEndian 29 ||| 0x30000 ||| (d.dcr &&& 0x1A) ||| flag s.nmiReq 2 ||| flag (bit s.ejtag.ecr 15) 0)
  | 0x01000 => some (0x42000000 ||| d.ibs)
  | 0x01100 => some d.iba[0]
  | 0x01200 => some d.iba[1]
  | 0x01108 => some d.ibm[0]
  | 0x01208 => some d.ibm[1]
  | 0x01110 => some d.ibasid[0]
  | 0x01210 => some d.ibasid[1]
  | 0x01118 => some d.ibc[0]
  | 0x01218 => some d.ibc[1]
  | 0x02000 => some (0x41000000 ||| d.dbs)
  | 0x02100 => some d.dba
  | 0x02108 => some d.dbm
  | 0x02110 => some d.dbasid
  | 0x02118 => some d.dbc
  | 0x02120 => some d.dbv
  | _ => none

/-- R633: a write of a drseg register; a break status bit is cleared by writing 0. -/
def Drseg.put (d : Drseg) (off : Nat) (v : Word) : Drseg :=
  match off with
  | 0x00000 => { d with dcr := v &&& 0x1A }
  | 0x01000 => { d with ibs := d.ibs &&& v }
  | 0x01100 => { d with iba := d.iba.set 0 v }
  | 0x01200 => { d with iba := d.iba.set 1 v }
  | 0x01108 => { d with ibm := d.ibm.set 0 v }
  | 0x01208 => { d with ibm := d.ibm.set 1 v }
  | 0x01110 => { d with ibasid := d.ibasid.set 0 (v &&& 0xFF) }
  | 0x01210 => { d with ibasid := d.ibasid.set 1 (v &&& 0xFF) }
  | 0x01118 => { d with ibc := d.ibc.set 0 (v &&& 0x800005) }
  | 0x01218 => { d with ibc := d.ibc.set 1 (v &&& 0x800005) }
  | 0x02000 => { d with dbs := d.dbs &&& v }
  | 0x02100 => { d with dba := v }
  | 0x02108 => { d with dbm := v }
  | 0x02110 => { d with dbasid := v &&& 0xFF }
  | 0x02118 => { d with dbc := v &&& 0x83F0F5 }
  | 0x02120 => { d with dbv := v }
  | _ => d

/-- A drseg read: word only (R633). A narrower one reads a free value (log entry 47), like one where no register is (U31). -/
def drsegRead (va : Word) (n : Nat) (s : State) : Word × State :=
  match drsegGet va s with
  | some w => if n = 4 then (w, s) else freeRead s
  | none => freeRead s

/-- A drseg write: word only (R633). A narrower one is ignored (log entry 47), like one where no register is (U31). -/
def drsegWrite (va : Word) (n : Nat) (v : Word) (s : State) : State :=
  if n = 4 then { s with drseg := s.drseg.put (va.extractLsb' 0 20).toNat v } else s

/-! ### dmseg (R631, R632, R634) -/

/-- R642, R644: the size code of an access; of three bytes it is 3 in both modes (log entry 35). -/
def sizeCode (n : Nat) : Word :=
  match n with
  | 1 => 0
  | 2 => 1
  | 3 => 3
  | _ => 2

/-- What the core asks of the probe: one load or store of some bytes, or the line of a cache fill. -/
inductive DmsegOp where
  | load (n : Nat)
  | store (n : Nat) (v : Word)
  | line
deriving DecidableEq, Repr

/-- The bytes of one transfer of a dmseg access. -/
def DmsegOp.size : DmsegOp → Nat
  | .load n => n
  | .store n _ => n
  | .line => 4

/-- R644: the burst code, 8-beat wrapping for a line. -/
def DmsegOp.burstCode : DmsegOp → BitVec 2
  | .line => 2
  | _ => 0

/-- The data of a store. -/
def DmsegOp.data : DmsegOp → Option Word
  | .store _ v => some v
  | _ => none

/-- R631, R632: the hardware latches a dmseg access and waits. The data of a store are the whole value it was given (log entry
16). -/
def postAccess (va : Word) (op : DmsegOp) (e : Ejtag) : Ejtag :=
  let write := op.data.isSome
  if e.am then
    { e with
      addressA := (op.burstCode ++ (sizeCode op.size).setWidth 3 ++ va : BitVec 37),
      dataA := ((op.data.map fun v => v.setWidth 33).getD e.dataA),
      burst := [],
      ecrA := (if write then 3#2 else 1#2) }
  else
    { e with
      address := va,
      data := op.data.getD e.data,
      ecr := (putField (e.ecr &&& ~~~(one 19)) 29 2 (sizeCode op.size)) ||| one 18 ||| flag write 19 }

/-- A dmseg access is under way. -/
def Ejtag.pending (e : Ejtag) : Bool := bit e.ecr 18 || e.ecrA.getLsbD 0

/-- R631, R634: a dmseg access: done when the probe has answered, else the core waits (U30). Answers the words of the probe. The
core looks at ECR.ProbEn at each step until the access is posted, and not after that (log entry 16). -/
def dmsegAccess (va : Word) (op : DmsegOp) (s : State) : Res (List Word) :=
  match s.ejtag.answer with
  | some ws => .ok ws { s with ejtag := { s.ejtag with answer := none } }
  | none =>
    if s.ejtag.pending || !bit s.ejtag.ecr 15 then .stall s
    else .stall { s with ejtag := postAccess va op s.ejtag }

/-- The first of the words. -/
def firstWord (ws : List Word) : Word := ws.headD 0

/-- R109, R630: the extended dmseg of ACC mode, whose cache attribute is 0: cached, write-through. -/
def inCachedDmseg (va : Word) (s : State) : Bool :=
  inDseg va s && (decide (va.toNat < 0xFF200000) || decide (0xFF400000 ≤ va.toNat))

/-- R644: the bytes of the line that an 8-beat wrapping burst from word `w0` of it has read. -/
def lineOfBurst (w0 : Nat) (ws : List Word) (s : State) : List Byte :=
  (List.range 8).flatMap fun i => s.bytes 4 (ws[(i + 8 - w0) % 8]?.getD 0)

/-- The probe delivers the line around `va`, the address that missed, which PAA shows with its low bits (log entry 16). -/
def dmsegLine (va : Word) (s : State) : Res (List Byte) :=
  (dmsegAccess va .line s).bind fun ws s1 => .ok (lineOfBurst (va.toNat % 32 / 4) ws s1) s1

/-- R133, R630: an instruction fetch through the instruction cache; a hit needs no probe (log entry 16). -/
def dmsegFetch (va : Word) (s : State) : Res Word :=
  let pa := va.toNat
  let set := setOf s.params.icache pa
  (match findWay s.iline set pa with
   | some w => Res.ok (4 * set + w) s
   | none =>
     (dmsegLine va s).bind fun bs s1 =>
       let key := 4 * set + victimWay s1.iline set s1.draw
       .ok key ((s1.drawn 1).setIline key (filledLine pa bs))).bind fun key s2 =>
    .ok (s2.value ((s2.iline key).read (pa % 32) 4)) s2

/-- R131, R630: a load through the data cache; a hit needs no probe (log entry 16). -/
def dmsegLoad (va : Word) (n : Nat) (s : State) : Res Word :=
  let pa := va.toNat
  let set := setOf s.params.dcache pa
  (match findWay s.dline set pa with
   | some w => Res.ok (4 * set + w) s
   | none =>
     (dmsegLine va s).bind fun bs s1 =>
       let key := 4 * set + victimWay s1.dline set s1.draw
       (writeBackDirty set (s1.dline key) (s1.drawn 1)).bind fun _ s2 =>
         .ok key (s2.setDline key (filledLine pa bs))).bind fun key s3 =>
    .ok (s3.value ((s3.dline key).read (pa % 32) n)) s3

/-- R630: a load from dseg; buffered stores stay where they are, because no bus is used (log entry 11). -/
def dsegRead (va : Word) (n : Nat) (s : State) : Res Word :=
  if inDrseg va then .ok (drsegRead va n s).1 (drsegRead va n s).2
  else if inCachedDmseg va s then dmsegLoad va n s
  else (dmsegAccess va (.load n) s).bind fun ws s1 => .ok (firstWord ws) s1

/-- R630: a fetch from dseg, which waits for no buffered store either (log entry 11). -/
def dsegFetch (va : Word) (s : State) : Res Word :=
  if inCachedDmseg va s then dmsegFetch va s else dsegRead va 4 s

/-- R630: a store to dseg; the extended dmseg writes through, and allocates no line (R132). -/
def dsegWrite (va : Word) (n : Nat) (v : Word) (s : State) : Res Unit :=
  if inDrseg va then .ok () (drsegWrite va n v s)
  else
    (dmsegAccess va (.store n v) s).bind fun _ s1 =>
      .ok () (if inCachedDmseg va s1 then updateHit va.toNat (s1.bytes n v) s1 else s1)

/-! ### Hardware breakpoints (R635) -/

/-- R635: a break control register enables a match: BE or TE, and the ASID agrees when it is used. -/
def breakEnabled (c asid : Word) (s : State) : Bool :=
  !s.dm && (bit c 0 || bit c 2) && (!bit c 23 || asid.setWidth 8 == s.asid)

/-- R635: instruction breakpoint `i` matches the pc. -/
def ibMatch (i : Fin 2) (s : State) : Bool :=
  let d := s.drseg
  breakEnabled d.ibc[i] d.ibasid[i] s && (s.pc &&& ~~~d.ibm[i] == d.iba[i] &&& ~~~d.ibm[i])

/-- R635: instruction breakpoints: IBS, and the debug exception when the breakpoint has BE set. -/
def ibCheck (s : State) : Res Unit :=
  let m0 := ibMatch 0 s
  let m1 := ibMatch 1 s
  let s1 := if m0 || m1 then { s with drseg := { s.drseg with ibs := s.drseg.ibs ||| flag m0 0 ||| flag m1 1 } } else s
  if (m0 && bit s.drseg.ibc[0] 0) || (m1 && bit s.drseg.ibc[1] 0) then .dbg .dib s1 else .ok () s1

/-- The byte lanes of an access: lane i is the data bits 8i+7:8i, in both byte orders (log entry 47). -/
def laneMask (be : Bool) (l : Lanes) : Word := fieldMask (l.shift be) l.n

/-- R635: the data breakpoint's address condition. -/
def dbAddrMatch (k : Kind) (va : Word) (l : Lanes) (s : State) : Bool :=
  let d := s.drseg
  breakEnabled d.dbc d.dbasid s && (if k = .store then !bit d.dbc 13 else !bit d.dbc 12) &&
    (va &&& ~~~d.dbm == d.dba &&& ~~~d.dbm) &&
    (laneMask s.params.bigEndian l &&& ~~~BitVec.ofNat 32 (field d.dbc 14 4) != 0)

/-- R635: BLM masks every lane: the address alone decides. -/
def dbAddressOnly (s : State) : Bool := field s.drseg.dbc 4 4 == 15

/-- R635: the data equals DBV on the lanes accessed that neither BLM masks nor BAI ignores (log entry 47). -/
def dbValueMatch (l : Lanes) (v : Word) (s : State) : Bool :=
  let d := s.drseg
  let lanes := laneMask s.params.bigEndian l &&& ~~~BitVec.ofNat 32 (field d.dbc 4 4) &&&
    ~~~BitVec.ofNat 32 (field d.dbc 14 4)
  let data := v <<< (8 * l.shift s.params.bigEndian)
  ([0, 1, 2, 3] : List Nat).all fun i => !bit lanes i || field data (8 * i) 8 == field d.dbv (8 * i) 8

/-- R635: what a data breakpoint match does before the access goes on. -/
def dbTake (k : Kind) (s : State) : Res Unit :=
  let s1 := { s with drseg := { s.drseg with dbs := s.drseg.dbs ||| 1 } }
  if bit s.drseg.dbc 0 then .dbg (if k = .store then .ddbs else .ddbl) s1 else .ok () s1

/-! ### Loads and stores -/

/-- R120, R121: the part of an access before the data moves: translation, watch, and a precise data breakpoint. A deferred watch
stays recorded when the breakpoint is taken (log entry 15). -/
def prepare (k : Kind) (va : Word) (l : Lanes) (s : State) : Res (Word × BitVec 3) :=
  (translate va k s).bind fun t s1 =>
    (watchCheck va k s1).bind fun _ s2 =>
      (if dbAddrMatch k va l s2 && dbAddressOnly s2 then dbTake k s2 else .ok () s2).bind fun _ s3 => .ok t s3

/-- A data access goes to dseg: in debug mode, unless Debug.LSNM sends it to memory (R630). -/
def dataDseg (va : Word) (s : State) : Bool := inDseg va s && !bit s.cp0.debug 28

/-- R120: read the bytes of an access; answers their value and the physical address. In dseg an access of a part of a word has the
address of its lowest byte (log entry 16). -/
def readLanes (va : Word) (l : Lanes) (s : State) : Res (Word × Word) :=
  if dataDseg va s then (dsegRead (BitVec.ofNat 32 (l.addr va)) l.n s).bind fun v s1 => .ok (v, va) s1
  else
    (prepare .load va l s).bind fun t s1 =>
      (if uncached t.2 then coreRead l.n (l.addr t.1) s1 else dcacheRead l.n (l.addr t.1) s1).bind fun bs s2 =>
        let v := s2.value bs
        (if dbAddrMatch .load va l s2 && !dbAddressOnly s2 && dbValueMatch l v s2 then dbTake .load s2
         else .ok () s2).bind fun _ s3 => .ok (v, t.1) s3

/-- R121: write the low bytes of `v` as the bytes of an access. In dseg an access of a part of a word has the address of its lowest
byte (log entry 16). -/
def writeLanes (va : Word) (l : Lanes) (v : Word) (s : State) : Res Unit :=
  if dataDseg va s then dsegWrite (BitVec.ofNat 32 (l.addr va)) l.n v s
  else
    (prepare .store va l s).bind fun t s1 =>
      (if dbAddrMatch .store va l s1 && !dbAddressOnly s1 && dbValueMatch l v s1 then dbTake .store s1
       else .ok () s1).bind fun _ s2 =>
        if uncached t.2 then coreWrite (s2.bytes l.n v) (l.addr t.1) s2
        else dcacheWrite (s2.bytes l.n v) (l.addr t.1) t.2 s2

/-- R104: an aligned access. -/
def aligned (va : Word) (n : Nat) : Bool := va.toNat % n == 0

/-- R120: MemRead, with the physical address. -/
def memReadPa (va : Word) (n : Nat) (s : State) : Res (Word × Word) :=
  if aligned va n then readLanes va (plainLanes s va n) s else .exc (.adel va) s

/-- R120: MemRead. -/
def memRead (va : Word) (n : Nat) (s : State) : Res Word := (memReadPa va n s).bind fun r s1 => .ok r.1 s1

/-- R121: MemWrite. -/
def memWrite (va : Word) (n : Nat) (v : Word) (s : State) : Res Unit :=
  if aligned va n then writeLanes va (plainLanes s va n) v s else .exc (.ades va) s

/-! ### Fetch -/

/-- R122: the bytes of the instruction at the pc, from memory. An uncached fetch sees every earlier store
(70_reset_and_hazards.md R842, D8); a cached one does not wait for them (R143). -/
def fetchMemory (s : State) : Res Word :=
  (translate s.pc .fetch s).bind fun t s1 =>
    (ibCheck s1).bind fun _ s2 =>
      (watchCheck s.pc .fetch s2).bind fun _ s3 =>
        (if uncached t.2 then coreRead 4 t.1.toNat s3 else icacheRead t.1.toNat s3).bind fun bs s4 => .ok (s4.value bs) s4

/-- R122: Fetch. A word already fetched by an instruction that waits for the probe is kept (log entry 16). -/
def fetch (s : State) : Res Word :=
  match s.ejtag.held with
  | some w => .ok w s
  | none =>
    if !aligned s.pc 4 then .exc (.adel s.pc) s
    else if inDseg s.pc s then dsegFetch s.pc s
    else fetchMemory s

end Sys2Proof.Machine
end

