-- ==== Sys2Proof/Machine/LoadStore.lean ====
section
/-! DEFINITION. Loads, stores, LL and SC, PREF and SYNC (44_loadstore.md). -/

namespace Sys2Proof.Machine

/-- An aligned load of `n` bytes, its value passed through `ext`. -/
def load (rt base : Reg) (off : Imm16) (n : Nat) (ext : Word → Word) (s : State) : Out :=
  (memRead (effAddr base off s) n s).out fun v s1 => writeResult rt (ext v) s1

/-- An aligned store of the low `n` bytes of rt. -/
def store (rt base : Reg) (off : Imm16) (n : Nat) (s : State) : Out :=
  (memWrite (effAddr base off s) n (s.reg rt) s).out fun _ s1 => done s1

/-- LB (R351). -/
def execLb (rt base : Reg) (off : Imm16) (s : State) : Out :=
  load rt base off 1 (fun v => (v.extractLsb' 0 8).signExtend 32) s

/-- LBU (R352). -/
def execLbu (rt base : Reg) (off : Imm16) (s : State) : Out :=
  load rt base off 1 (fun v => (v.extractLsb' 0 8).setWidth 32) s

/-- LH (R353). -/
def execLh (rt base : Reg) (off : Imm16) (s : State) : Out :=
  load rt base off 2 (fun v => (v.extractLsb' 0 16).signExtend 32) s

/-- LHU (R354). -/
def execLhu (rt base : Reg) (off : Imm16) (s : State) : Out :=
  load rt base off 2 (fun v => (v.extractLsb' 0 16).setWidth 32) s

/-- LW (R355). -/
def execLw (rt base : Reg) (off : Imm16) (s : State) : Out := load rt base off 4 id s

/-- SB (R356). -/
def execSb (rt base : Reg) (off : Imm16) (s : State) : Out := store rt base off 1 s

/-- SH (R357). -/
def execSh (rt base : Reg) (off : Imm16) (s : State) : Out := store rt base off 2 s

/-- SW (R358). -/
def execSw (rt base : Reg) (off : Imm16) (s : State) : Out := store rt base off 4 s

/-! ### Unaligned words (R365) -/

/-- R365: `k` of an address: its byte offset counted from the least significant byte of the word. -/
def byteIndex (va : Word) (s : State) : Nat := if s.bigEndianCPU then 3 - field va 0 2 else field va 0 2

/-- R366: the lanes LWL and SWL touch: value bytes k down to 0. -/
def leftLanes (va : Word) (s : State) : Lanes := valueLanes s 0 (byteIndex va s + 1)

/-- R367: the lanes LWR and SWR touch: value bytes 3 down to k. -/
def rightLanes (va : Word) (s : State) : Lanes := valueLanes s (byteIndex va s) (4 - byteIndex va s)

/-- R366: `v` in the most significant k + 1 bytes, the rest from `old`. -/
def mergeLeft (k : Nat) (v old : Word) : Word := (v <<< (8 * (3 - k))) ||| (old &&& fieldMask 0 (8 * (3 - k)))

/-- R367: `v` in the least significant 4 - k bytes, the rest from `old`. -/
def mergeRight (k : Nat) (v old : Word) : Word :=
  (old &&& ~~~(0xFFFFFFFF#32 >>> (8 * k))) ||| (v &&& (0xFFFFFFFF#32 >>> (8 * k)))

/-- LWL (R366). -/
def execLwl (rt base : Reg) (off : Imm16) (s : State) : Out :=
  let ea := effAddr base off s
  (readLanes ea (leftLanes ea s) s).out fun r s1 => writeResult rt (mergeLeft (byteIndex ea s) r.1 (s.reg rt)) s1

/-- LWR (R367). -/
def execLwr (rt base : Reg) (off : Imm16) (s : State) : Out :=
  let ea := effAddr base off s
  (readLanes ea (rightLanes ea s) s).out fun r s1 => writeResult rt (mergeRight (byteIndex ea s) r.1 (s.reg rt)) s1

/-- SWL (R368). -/
def execSwl (rt base : Reg) (off : Imm16) (s : State) : Out :=
  let ea := effAddr base off s
  (writeLanes ea (leftLanes ea s) (s.reg rt >>> (8 * (3 - byteIndex ea s))) s).out fun _ s1 => done s1

/-- SWR (R369). -/
def execSwr (rt base : Reg) (off : Imm16) (s : State) : Out :=
  let ea := effAddr base off s
  (writeLanes ea (rightLanes ea s) (s.reg rt) s).out fun _ s1 => done s1

/-! ### LL, SC, PREF, SYNC -/

/-- LL (R380). -/
def execLl (rt base : Reg) (off : Imm16) (s : State) : Out :=
  (memReadPa (effAddr base off s) 4 s).out fun r s1 =>
    writeResult rt r.1 { s1 with cp0 := { s1.cp0 with llAddr := r.2 >>> 4 }, llBit := true }

/-- R381: the checks of a store that is not performed: alignment, address error, TLBS and Mod. -/
def checkStore (va : Word) (s : State) : Res Unit :=
  if !aligned va 4 then .exc (.ades va) s
  else if dataDseg va s then .ok () s
  else (translate va .store s).bind fun _ s1 => .ok () s1

/-- SC (R381). -/
def execSc (rt base : Reg) (off : Imm16) (s : State) : Out :=
  let ea := effAddr base off s
  (if s.llBit then memWrite ea 4 (s.reg rt) s else checkStore ea s).out fun _ s1 => writeResult rt (boolWord s.llBit) s1

/-- PREF (R385, D15): no effect on architectural state. -/
def execPref (_hint : BitVec 5) (_base : Reg) (_off : Imm16) (s : State) : Out := done s

/-- SYNC (R384, R142): every earlier store leaves the write buffer. -/
def execSync (_stype : BitVec 5) (s : State) : Out := (drainAll s).out fun _ s1 => done s1

end Sys2Proof.Machine
end

