-- ==== Sys2Proof/Machine/CacheOps.lean ====
section
/-! DEFINITION. CACHE and SYNCI (44_loadstore.md R386, R388). -/

namespace Sys2Proof.Machine

/-- R388: the key of the line an Index operation names. -/
def indexKey (c : CacheSize) (ea : Word) : Nat := 4 * setOf c ea.toNat + wayOf c ea.toNat

/-- R388: the key of the instruction cache line that holds a physical address. -/
def iHit (pa : Nat) (s : State) : Option Nat :=
  (findWay s.iline (setOf s.params.icache pa) pa).map fun w => 4 * setOf s.params.icache pa + w

/-- R388: the key of the data cache line that holds a physical address. -/
def dHit (pa : Nat) (s : State) : Option Nat :=
  (findWay s.dline (setOf s.params.dcache pa) pa).map fun w => 4 * setOf s.params.dcache pa + w

/-- V <- 0 in an instruction cache line. -/
def iInvalidate (key : Nat) (s : State) : State := s.setIline key { s.iline key with valid := false }

/-- V <- 0 in a data cache line. -/
def dInvalidate (key : Nat) (s : State) : State := s.setDline key { s.dline key with valid := false }

/-- R60: TagLo of a line; `u` are the dirty bits. -/
def tagLoOf (l : CacheLine) (u : Word) : Word := (l.tag ++ 0#10) ||| u ||| flag l.lock 1 ||| flag l.valid 0

/-- The word of a line that ea[4:2] selects. -/
def lineWord (l : CacheLine) (ea : Word) (s : State) : Word := s.value (l.read (ea.toNat % 32 / 4 * 4) 4)

/-- Index Load Tag: TagLo and DataLo. -/
def loadTag (l : CacheLine) (u ea : Word) (s : State) : State :=
  s.withCp0 { s.cp0 with tagLo := tagLoOf l u, dataLo := lineWord l ea s }

/-- TagLo.U of a data cache line: 0 when clean, a free nonzero code when dirty (R130, log entry 18). -/
def dirtyBits (l : CacheLine) (free : Word) : Word := if l.dirty then BitVec.ofNat 32 (4 * (1 + free.toNat % 3)) else 0

/-- Index Store Tag: the line with tag, L and V of TagLo. -/
def storeTag (l : CacheLine) (t : Word) : CacheLine :=
  { l with tag := t.extractLsb' 10 22, lock := bit t 1, valid := bit t 0, dirty := false }

/-- Write a data cache line back when it is dirty; it becomes clean. -/
def dClean (key set : Nat) (s : State) : Res Unit :=
  (writeBackDirty set (s.dline key) s).bind fun _ s1 =>
    .ok () (if (s.dline key).valid then s1.setDline key { s1.dline key with dirty := false } else s1)

/-- Apply `f` to the line that holds an address, if one does. -/
def onHit (hit : Option Nat) (f : Nat → State → Res Unit) (s : State) : Res Unit :=
  match hit with
  | none => .ok () s
  | some key => f key s

/-- R388: Fill, and Fetch and Lock, of the instruction cache: a line that holds the address is fetched again. -/
def iFill (pa : Nat) (s : State) : Res Unit :=
  cachedAccess pa (fun s0 =>
    (match iHit pa s0 with
     | none => iRefill pa s0
     | some key =>
       (transferWords (pa / 32 * 32) 8 s0).bind fun bs s1 => .ok key (s1.setIline key (filledLine pa bs))).bind fun _ s1 =>
      .ok () s1) s

/-- R388: Fetch and Lock of the data cache: a fill without locking, which leaves a line that is present as it is (log entry 32). -/
def dFill (pa : Nat) (s : State) : Res Unit := (dLookup pa s).bind fun _ s1 => .ok () s1

/-- R388: the operations that exist. -/
def cacheOpKnown (op : BitVec 5) : Bool :=
  [0x00, 0x04, 0x08, 0x10, 0x14, 0x1C, 0x01, 0x05, 0x09, 0x11, 0x15, 0x19, 0x1D].contains op.toNat

/-- R388: the effect of operation `op` at effective address `ea`, physical address `pa`; the remaining codes do
nothing. -/
def cacheEffect (op : BitVec 5) (ea : Word) (pa : Nat) (s : State) : Res Unit :=
  let ik := indexKey s.params.icache ea
  let dk := indexKey s.params.dcache ea
  let dset := setOf s.params.dcache pa
  match op.toNat with
  | 0x00 => .ok () (iInvalidate ik s)
  | 0x04 => .ok () (loadTag (s.iline ik) 0 ea s)
  | 0x08 => .ok () (s.setIline ik (storeTag (s.iline ik) s.cp0.tagLo))
  | 0x10 => onHit (iHit pa s) (fun k s1 => .ok () (iInvalidate k s1)) s
  | 0x14 => iFill pa s
  | 0x1C => iFill pa s
  | 0x01 => (dClean dk (setOf s.params.dcache ea.toNat) s).bind fun _ s1 => .ok () (dInvalidate dk s1)
  | 0x05 => .ok () (loadTag (s.dline dk) (dirtyBits (s.dline dk) s.draw) ea (s.drawn 1))
  | 0x09 => .ok () (s.setDline dk (storeTag (s.dline dk) s.cp0.tagLo))
  | 0x11 => onHit (dHit pa s) (fun k s1 => .ok () (dInvalidate k s1)) s
  | 0x15 => onHit (dHit pa s) (fun k s1 => (dClean k dset s1).bind fun _ s2 => .ok () (dInvalidate k s2)) s
  | 0x19 => onHit (dHit pa s) (fun k s1 => dClean k dset s1) s
  | 0x1D => dFill pa s
  | _ => .ok () s

/-- CACHE (R388); reserved operations (D16) and dseg addresses (R634) are no-operations. -/
def execCache (op : BitVec 5) (base : Reg) (off : Imm16) (s : State) : Out :=
  let ea := effAddr base off s
  privileged s
    (if !cacheOpKnown op || inDseg ea s then done s
     else
       ((translate ea .load s).bind fun t s1 => cacheEffect op ea t.1.toNat s1).out fun _ s1 => done s1)

/-- R386: the effect of SYNCI on a cached physical address. -/
def synciEffect (pa : Nat) (s : State) : Res Unit :=
  (onHit (dHit pa s) (fun k s1 => dClean k (setOf s.params.dcache pa) s1) s).bind fun _ s1 =>
    onHit (iHit pa s1) (fun k s2 => .ok () (iInvalidate k s2)) s1

/-- SYNCI (R386); at a dseg address it does nothing, like CACHE (R634, log entry 32). -/
def execSynci (base : Reg) (off : Imm16) (s : State) : Out :=
  let ea := effAddr base off s
  if inDseg ea s then done s
  else
    ((translate ea .load s).bind fun t s1 => if uncached t.2 then .ok () s1 else synciEffect t.1.toNat s1).out fun _ s1 =>
      done s1

end Sys2Proof.Machine
end

