-- ==== Sys2Proof/Machine/MulDiv.lean ====
section
/-! DEFINITION. Multiply, divide, and HI/LO instructions (42_muldiv.md). -/

namespace Sys2Proof.Machine

/-- The exact signed product (R281). -/
def productSigned (a b : Word) : BitVec 64 := BitVec.ofInt 64 (a.toInt * b.toInt)

/-- The exact unsigned product (R282). -/
def productUnsigned (a b : Word) : BitVec 64 := BitVec.ofNat 64 (a.toNat * b.toNat)

/-- MULT (R281). -/
def execMult (rs rt : Reg) (s : State) : Out := writeHiLo (productSigned (s.reg rs) (s.reg rt)) s

/-- MULTU (R282). -/
def execMultu (rs rt : Reg) (s : State) : Out := writeHiLo (productUnsigned (s.reg rs) (s.reg rt)) s

/-- DIV (R283, U17): truncated quotient; the overflowing case gives the 32-bit truncation of the exact result. -/
def execDiv (rs rt : Reg) (s : State) : Out :=
  let n := (s.reg rs).toInt
  let d := (s.reg rt).toInt
  if s.reg rt = 0 then done s.freeHiLo
  else done { s with lo := BitVec.ofInt 32 (n.tdiv d), hi := BitVec.ofInt 32 (n.tmod d) }

/-- DIVU (R284, U17). -/
def execDivu (rs rt : Reg) (s : State) : Out :=
  let n := (s.reg rs).toNat
  let d := (s.reg rt).toNat
  if s.reg rt = 0 then done s.freeHiLo else done { s with lo := BitVec.ofNat 32 (n / d), hi := BitVec.ofNat 32 (n % d) }

/-- MFHI (R285). -/
def execMfhi (rd : Reg) (s : State) : Out := writeResult rd s.hi s

/-- MTHI (R287). -/
def execMthi (rs : Reg) (s : State) : Out := done { s with hi := s.reg rs }

/-- MFLO (R286). -/
def execMflo (rd : Reg) (s : State) : Out := writeResult rd s.lo s

/-- MTLO (R288). -/
def execMtlo (rs : Reg) (s : State) : Out := done { s with lo := s.reg rs }

/-- MUL (R290, U18): HI and LO become free values. -/
def execMul (rd rs rt : Reg) (s : State) : Out :=
  writeResult rd ((productSigned (s.reg rs) (s.reg rt)).extractLsb' 0 32) s.freeHiLo

/-- MADD (R291). -/
def execMadd (rs rt : Reg) (s : State) : Out := writeHiLo (s.acc + productSigned (s.reg rs) (s.reg rt)) s

/-- MADDU (R292). -/
def execMaddu (rs rt : Reg) (s : State) : Out := writeHiLo (s.acc + productUnsigned (s.reg rs) (s.reg rt)) s

/-- MSUB (R293). -/
def execMsub (rs rt : Reg) (s : State) : Out := writeHiLo (s.acc - productSigned (s.reg rs) (s.reg rt)) s

/-- MSUBU (R294). -/
def execMsubu (rs rt : Reg) (s : State) : Out := writeHiLo (s.acc - productUnsigned (s.reg rs) (s.reg rt)) s

end Sys2Proof.Machine
end

