-- ==== Sys2Proof/Machine/Shift.lean ====
section
/-! DEFINITION. Shifts and rotates (41_shift.md). -/

namespace Sys2Proof.Machine

/-- R263: the low five bits of a register are the count. -/
def shiftCount (rs : Reg) (s : State) : Nat := field (s.reg rs) 0 5

/-- SLL (R260); NOP, SSNOP and EHB are such words (R436 to R438). -/
def execSll (rd rt : Reg) (sa : BitVec 5) (s : State) : Out := writeResult rd (s.reg rt <<< sa.toNat) s

/-- SLLV (R263). -/
def execSllv (rd rt rs : Reg) (s : State) : Out := writeResult rd (s.reg rt <<< shiftCount rs s) s

/-- SRL (R261). -/
def execSrl (rd rt : Reg) (sa : BitVec 5) (s : State) : Out := writeResult rd (s.reg rt >>> sa.toNat) s

/-- SRLV (R264). -/
def execSrlv (rd rt rs : Reg) (s : State) : Out := writeResult rd (s.reg rt >>> shiftCount rs s) s

/-- SRA (R262). -/
def execSra (rd rt : Reg) (sa : BitVec 5) (s : State) : Out := writeResult rd ((s.reg rt).sshiftRight sa.toNat) s

/-- SRAV (R265). -/
def execSrav (rd rt rs : Reg) (s : State) : Out := writeResult rd ((s.reg rt).sshiftRight (shiftCount rs s)) s

/-- ROTR (R266). -/
def execRotr (rd rt : Reg) (sa : BitVec 5) (s : State) : Out := writeResult rd ((s.reg rt).rotateRight sa.toNat) s

/-- ROTRV (R267). -/
def execRotrv (rd rt rs : Reg) (s : State) : Out := writeResult rd ((s.reg rt).rotateRight (shiftCount rs s)) s

end Sys2Proof.Machine
end

