-- ==== Sys2Proof/Machine/TlbOps.lean ====
section
/-! DEFINITION. TLBP, TLBR, TLBWI and TLBWR (45_trap_system.md R445 to R448). -/

namespace Sys2Proof.Machine

/-- JTLB_ENTRIES. -/
def Params.tlbSize (p : Params) : Nat := p.lastIndex + 1

/-- n = log2(JTLB_ENTRIES) (R29). -/
def Params.indexBits (p : Params) : Nat := if p.tlb32 then 5 else 4

/-- TLB entry `i`. -/
def State.tlbAt (s : State) (i : Nat) : TlbEntry := s.tlb[i % 32]'(Nat.mod_lt _ (by decide))

/-- Replace TLB entry `i`. -/
def State.setTlb (s : State) (i : Nat) (e : TlbEntry) : State :=
  { s with tlb := s.tlb.set (i % 32) e (Nat.mod_lt _ (by decide)) }

/-- R445: the last entry that EntryHi matches. -/
def probeIndex (s : State) : Option Nat :=
  (List.range (Params.tlbSize s.params)).foldl
    (fun found i => if (s.tlbAt i).hits (vpn2Of s.cp0.entryHi) s.asid then some i else found) none

/-- R445: Index after TLBP. -/
def probedIndex (s : State) : Word :=
  match probeIndex s with
  | some i => BitVec.ofNat 32 i
  | none => s.cp0.index ||| one 31

/-- TLBP (R445). -/
def execTlbp (s : State) : Out := privileged s (done (s.withCp0 { s.cp0 with index := probedIndex s }))

/-- R446: EntryLo of one page of an entry. -/
def entryLo (p : Page) (g : Bool) : Word := (0#6 ++ p.pfn ++ p.c ++ 0#3) ||| flag p.d 2 ||| flag p.v 1 ||| flag g 0

/-- R446: CP0 after TLBR of entry `e`. -/
def Cp0.fromEntry (c : Cp0) (e : TlbEntry) : Cp0 :=
  { c with pageMask := 0#7 ++ e.mask ++ 0#13, entryHi := e.vpn2 ++ 0#5 ++ e.asid, entryLo0 := entryLo (e.page false) e.g,
           entryLo1 := entryLo (e.page true) e.g }

/-- The entry Index names. -/
def indexed (s : State) : Nat := s.cp0.index.toNat % (Params.tlbSize s.params)

/-- TLBR (R446). -/
def execTlbr (s : State) : Out := privileged s (done (s.withCp0 (s.cp0.fromEntry (s.tlbAt (indexed s)))))

/-- R447: the entry a TLB write makes. -/
def newEntry (c : Cp0) : TlbEntry :=
  { vpn2 := c.entryHi.extractLsb' 13 19, asid := c.entryHi.extractLsb' 0 8, mask := c.pageMask.extractLsb' 13 12,
    g := bit c.entryLo0 0 && bit c.entryLo1 0,
    pfn0 := c.entryLo0.extractLsb' 6 20, c0 := c.entryLo0.extractLsb' 3 3, d0 := bit c.entryLo0 2, v0 := bit c.entryLo0 1,
    pfn1 := c.entryLo1.extractLsb' 6 20, c1 := c.entryLo1.extractLsb' 3 3, d1 := bit c.entryLo1 2, v1 := bit c.entryLo1 1 }

/-- R447: the overlap test. -/
def TlbEntry.overlaps (a b : TlbEntry) : Bool :=
  let m := vpnMask (a.mask ||| b.mask)
  a.vpn2 &&& m == b.vpn2 &&& m && (a.g || b.g || a.asid == b.asid)

/-- R33: the seven legal page masks. -/
def legalMask (m : BitVec 12) : Bool :=
  m == 0 || m == 0x003 || m == 0x00F || m == 0x03F || m == 0x0FF || m == 0x3FF || m == 0xFFF

/-- R447: some entry other than `i` overlaps the new one. -/
def tlbConflict (s : State) (i : Nat) (e : TlbEntry) : Bool :=
  (List.range (Params.tlbSize s.params)).any fun j => j != i && e.overlaps (s.tlbAt j)

/-- R447: the machine check sets Status.TS, but in debug mode Status keeps its value (62_ejtag.md R627). -/
def reportConflict (s : State) : State :=
  if s.dm then s else s.withCp0 { s.cp0 with status := setBit s.cp0.status 21 true }

/-- R447: TLBWrite. -/
def tlbWrite (i : Nat) (s : State) : Out :=
  let e := newEntry s.cp0
  if !legalMask e.mask then .refused .reservedPageMask
  else if tlbConflict s i e then raise .mcheck (reportConflict s)
  else done (s.setTlb i e)

/-- TLBWI (R447). -/
def execTlbwi (s : State) : Out := privileged s (tlbWrite (indexed s) s)

/-- R30: the range of Random starts at Wired. -/
def wiredLimit (s : State) : Nat := min s.cp0.wired.toNat s.params.lastIndex

/-- R30, U5: a value of Random: any in Wired .. JTLB_ENTRIES - 1. -/
def randomValue (s : State) (free : Word) : Nat := wiredLimit s + free.toNat % (Params.tlbSize s.params - wiredLimit s)

/-- Draw a value of Random. -/
def drawRandom (s : State) : State :=
  { s.drawn 1 with cp0 := { s.cp0 with random := BitVec.ofNat 32 (randomValue s s.draw) } }

/-- TLBWR (R448). -/
def execTlbwr (s : State) : Out := privileged s (tlbWrite (randomValue s s.draw) (drawRandom s))

end Sys2Proof.Machine
end

