-- ==== Sys2Proof/Machine/System.lean ====
section
/-! DEFINITION. CP0 moves, DI, EI, RDHWR, RDPGPR, WRPGPR, ERET, DERET and WAIT (45_trap_system.md). -/

namespace Sys2Proof.Machine

/-! ### CP0 registers (10_state.md R27) -/

/-- The implemented CP0 registers. -/
inductive Cp0Reg where
  | index | random | entryLo0 | entryLo1 | context | pageMask | wired | badVAddr | entryHi | status | intCtl | cause | epc
  | prid | ebase | config | config1 | config2 | config3 | config7 | llAddr | watchLo | watchHi | debug | depc | errCtl
  | tagLo | dataLo | errorEpc | desave
deriving DecidableEq, Repr

/-- R27: the register of a number and select. -/
def cp0Reg (rd : Reg) (sel : BitVec 3) : Option Cp0Reg :=
  match rd.toNat, sel.toNat with
  | 0, 0 => some .index
  | 1, 0 => some .random
  | 2, 0 => some .entryLo0
  | 3, 0 => some .entryLo1
  | 4, 0 => some .context
  | 5, 0 => some .pageMask
  | 6, 0 => some .wired
  | 8, 0 => some .badVAddr
  | 10, 0 => some .entryHi
  | 12, 0 => some .status
  | 12, 1 => some .intCtl
  | 13, 0 => some .cause
  | 14, 0 => some .epc
  | 15, 0 => some .prid
  | 15, 1 => some .ebase
  | 16, 0 => some .config
  | 16, 1 => some .config1
  | 16, 2 => some .config2
  | 16, 3 => some .config3
  | 16, 7 => some .config7
  | 17, 0 => some .llAddr
  | 18, 0 => some .watchLo
  | 19, 0 => some .watchHi
  | 23, 0 => some .debug
  | 24, 0 => some .depc
  | 26, 0 => some .errCtl
  | 28, 0 => some .tagLo
  | 28, 1 => some .dataLo
  | 30, 0 => some .errorEpc
  | 31, 0 => some .desave
  | _, _ => none

/-- R50: the code of a cache size in Config1.IS and DS. -/
def cacheCode (c : CacheSize) : Word :=
  match c with
  | .k4 => 7
  | .k8 => 0
  | .k16 => 1

/-- R49: Config. -/
def configValue (s : State) : Word := 0x80000480 ||| flag s.params.bigEndian 15 ||| s.cp0.k0.setWidth 32

/-- R50: Config1. -/
def config1Value (p : Params) : Word :=
  0x8023118A ||| (BitVec.ofNat 32 p.lastIndex <<< 25) ||| (cacheCode p.icache <<< 22) ||| (cacheCode p.dcache <<< 13)

/-- R57: Debug, with CountDM and the version. -/
def debugValue (s : State) : Word := s.cp0.debug ||| one 25 ||| (Config.ejtagVer.setWidth 32 <<< 15)

/-- R29 to R63: the value of a register. -/
def cp0Value (s : State) : Cp0Reg → Word
  | .index => s.cp0.index
  | .random => s.cp0.random
  | .entryLo0 => s.cp0.entryLo0
  | .entryLo1 => s.cp0.entryLo1
  | .context => s.cp0.context
  | .pageMask => s.cp0.pageMask
  | .wired => s.cp0.wired
  | .badVAddr => s.cp0.badVAddr
  | .entryHi => s.cp0.entryHi
  | .status => s.cp0.status
  | .intCtl => s.cp0.intCtl
  | .cause => causeRead s
  | .epc => s.cp0.epc
  | .prid => 0x00028011
  | .ebase => s.cp0.ebase
  | .config => configValue s
  | .config1 => config1Value s.params
  | .config2 => 0x80000000
  | .config3 => 0x00000020
  | .config7 => s.cp0.config7
  | .llAddr => s.cp0.llAddr
  | .watchLo => s.cp0.watchLo
  | .watchHi => s.cp0.watchHi
  | .debug => debugValue s
  | .depc => s.cp0.depc
  | .errCtl => s.cp0.errCtl
  | .tagLo => s.cp0.tagLo
  | .dataLo => s.cp0.dataLo
  | .errorEpc => s.cp0.errorEpc
  | .desave => s.cp0.desave

/-- R57, U9: the registers of debug mode. -/
def Cp0Reg.debugOnly (r : Cp0Reg) : Bool := r == .debug || r == .depc || r == .desave

/-- R430: the value MFC0 reads, and the state after the read. -/
def cp0Read (r : Option Cp0Reg) (s : State) : Word × State :=
  match r with
  | none => (s.draw, s.drawn 1)
  | some .random => ((drawRandom s).cp0.random, drawRandom s)
  | some q => if q.debugOnly && !s.dm then (s.draw, s.drawn 1) else (cp0Value s q, s)

/-- MFC0 (R430). -/
def execMfc0 (rt rd : Reg) (sel : BitVec 3) (s : State) : Out :=
  privileged s (writeResult rt (cp0Read (cp0Reg rd sel) s).1 (cp0Read (cp0Reg rd sel) s).2)

/-- R432: masked write, then the bits of `clear` stay only where they are also written 1. -/
def maskedClear (mask clear old v : Word) : Word := masked mask old v &&& (v ||| ~~~clear)

/-- low(n) of R432. -/
def indexMask (s : State) : Word := fieldMask 0 (Params.indexBits s.params)

/-- R432: the bits of Debug that MTC0 writes: LSNM, IEXI and SSt; and MCheckP where R57, which marks it R/W, is right against R432
(log entry 14). -/
def debugMask : Word := 0x10100100 ||| flag Config.mcheckPWritten 23

/-- R432: CP0 after MTC0 of `v` to a register. -/
def cp0Write (r : Cp0Reg) (v : Word) (s : State) : Cp0 :=
  let c := s.cp0
  match r with
  | .index => { c with index := masked (indexMask s) c.index v }
  | .random => c
  | .entryLo0 => { c with entryLo0 := masked 0x03FFFFFF c.entryLo0 v }
  | .entryLo1 => { c with entryLo1 := masked 0x03FFFFFF c.entryLo1 v }
  | .context => { c with context := masked 0xFF800000 c.context v }
  | .pageMask => { c with pageMask := masked 0x01FFE000 c.pageMask v }
  | .wired => { c with wired := masked (indexMask s) c.wired v, random := BitVec.ofNat 32 s.params.lastIndex }
  | .badVAddr => c
  | .entryHi => { c with entryHi := masked 0xFFFFE0FF c.entryHi v }
  | .status => { c with status := maskedClear 0x1A40FF17 0x00280000 c.status v }
  | .intCtl => { c with intCtl := masked 0x000003E0 c.intCtl v }
  | .cause => { c with cause := maskedClear 0x00800300 0x00400000 c.cause v }
  | .epc => { c with epc := v }
  | .prid => c
  | .ebase => { c with ebase := masked 0x3FFFF000 c.ebase v }
  | .config => { c with k0 := v.extractLsb' 0 3 }
  | .config1 => c
  | .config2 => c
  | .config3 => c
  | .config7 => { c with config7 := masked 0x00000005 c.config7 v }
  | .llAddr => c
  | .watchLo => { c with watchLo := v }
  | .watchHi => { c with watchHi := masked 0x40FF0FF8 c.watchHi v &&& ~~~(v &&& 7) }
  | .debug => { c with debug := masked debugMask c.debug v }
  | .depc => { c with depc := v }
  | .errCtl => { c with errCtl := masked 0x30000000 c.errCtl v }
  | .tagLo => { c with tagLo := masked 0xFFFFFC03 c.tagLo v }
  | .dataLo => c
  | .errorEpc => { c with errorEpc := v }
  | .desave => { c with desave := v }

/-- R431: the state after MTC0; a write to an absent register is ignored (D4). -/
def writeCp0 (r : Option Cp0Reg) (v : Word) (s : State) : State :=
  match r with
  | none => s
  | some q => s.withCp0 (cp0Write q v s)

/-- MTC0 (R431). -/
def execMtc0 (rt rd : Reg) (sel : BitVec 3) (s : State) : Out :=
  privileged s (done (writeCp0 (cp0Reg rd sel) (s.reg rt) s))

/-! ### Interrupt enable, shadow registers, RDHWR -/

/-- R433: rt <- Status, then IE <- `ie`. -/
def setIe (rt : Reg) (ie : Bool) (s : State) : Out :=
  privileged s
    (writeResult rt s.cp0.status (s.withCp0 { s.cp0 with status := setBit s.cp0.status 0 ie }))

/-- DI (R433). -/
def execDi (rt : Reg) (s : State) : Out := setIe rt false s

/-- EI (R434). -/
def execEi (rt : Reg) (s : State) : Out := setIe rt true s

/-- RDPGPR (R441): one register set. -/
def execRdpgpr (rd rt : Reg) (s : State) : Out := privileged s (writeResult rd (s.reg rt) s)

/-- WRPGPR (R442). -/
def execWrpgpr (rd rt : Reg) (s : State) : Out := privileged s (writeResult rd (s.reg rt) s)

/-- RDHWR (R440, D18). -/
def execRdhwr (_rt _rd : Reg) (s : State) : Out := raise .ri s

/-! ### Exception return and wait -/

/-- ERET (R420). -/
def execEret (s : State) : Out := privileged s (outsideSlot s (.next (returnFromException s)))

/-- DERET (R421): RI outside debug mode. -/
def execDeret (s : State) : Out :=
  privileged s (if s.dm then outsideSlot s (.next (returnFromDebug s)) else raise .ri s)

/-- R545: the power mode that LCR.LPM asks for; entering HIBERNATE drives the pins (R548) and sets HCR.HGP (R544). That the PLL is
off in SLEEP makes no pending division code of CPCCR0 take effect (log entry 46). -/
def enterPowerMode (lpm : Nat) (s : State) : State :=
  match lpm with
  | 0 => { s with powerMode := .idle }
  | 1 => { s with powerMode := .sleep }
  | _ => { hibernatePins s with powerMode := .hibernate }

/-- R425, R545: the state after WAIT. -/
def startWait (lpm : Nat) (s : State) : State :=
  let s1 := enterPowerMode lpm (s.ioMod Adr.LCR 0 (one 2))
  { s1.retire with waiting := true }

/-- WAIT (R425, R545); LPM = 3 is refused (U24). -/
def execWait (_code : BitVec 19) (s : State) : Out :=
  let lpm := field (s.ioGet Adr.LCR) 0 2
  privileged s (outsideSlot s (if lpm = 3 then .refused .reservedLpm else .next (startWait lpm s)))

end Sys2Proof.Machine
end

