-- ==== Sys2Proof/Machine/Trap.lean ====
section
/-! DEFINITION. Conditional traps, system call, breakpoints, and the instructions of absent coprocessors
(45_trap_system.md). -/

namespace Sys2Proof.Machine

/-- TGE (R401). -/
def execTge (rs rt : Reg) (_code : BitVec 10) (s : State) : Out := trapIf (!ltSigned (s.reg rs) (s.reg rt)) s

/-- TGEU (R402). -/
def execTgeu (rs rt : Reg) (_code : BitVec 10) (s : State) : Out := trapIf (!ltUnsigned (s.reg rs) (s.reg rt)) s

/-- TLT (R403). -/
def execTlt (rs rt : Reg) (_code : BitVec 10) (s : State) : Out := trapIf (ltSigned (s.reg rs) (s.reg rt)) s

/-- TLTU (R405). -/
def execTltu (rs rt : Reg) (_code : BitVec 10) (s : State) : Out := trapIf (ltUnsigned (s.reg rs) (s.reg rt)) s

/-- TEQ (R404). -/
def execTeq (rs rt : Reg) (_code : BitVec 10) (s : State) : Out := trapIf (s.reg rs == s.reg rt) s

/-- TNE (R406). -/
def execTne (rs rt : Reg) (_code : BitVec 10) (s : State) : Out := trapIf (s.reg rs != s.reg rt) s

/-- TGEI (R407). -/
def execTgei (rs : Reg) (imm : Imm16) (s : State) : Out := trapIf (!ltSigned (s.reg rs) (sext16 imm)) s

/-- TGEIU (R408). -/
def execTgeiu (rs : Reg) (imm : Imm16) (s : State) : Out := trapIf (!ltUnsigned (s.reg rs) (sext16 imm)) s

/-- TLTI (R409). -/
def execTlti (rs : Reg) (imm : Imm16) (s : State) : Out := trapIf (ltSigned (s.reg rs) (sext16 imm)) s

/-- TLTIU (R410). -/
def execTltiu (rs : Reg) (imm : Imm16) (s : State) : Out := trapIf (ltUnsigned (s.reg rs) (sext16 imm)) s

/-- TEQI (R411). -/
def execTeqi (rs : Reg) (imm : Imm16) (s : State) : Out := trapIf (s.reg rs == sext16 imm) s

/-- TNEI (R412). -/
def execTnei (rs : Reg) (imm : Imm16) (s : State) : Out := trapIf (s.reg rs != sext16 imm) s

/-- SYSCALL (R415). -/
def execSyscall (_code : BitVec 20) (s : State) : Out := raise .sys s

/-- BREAK (R416). -/
def execBreak (_code : BitVec 20) (s : State) : Out := raise .bp s

/-- SDBBP (R417): debug entry, or in debug mode a new entry of the handler (R627). -/
def execSdbbp (_code : BitVec 20) (s : State) : Out := .next (if s.dm then debugReenter 9 s else debugEntry .dbp s)

/-! ### Absent coprocessors (R450) -/

/-- COP1. -/
def execCop1 (_rest : BitVec 26) (s : State) : Out := raise (.cpu 1) s
/-- COP2. -/
def execCop2 (_rest : BitVec 26) (s : State) : Out := raise (.cpu 2) s
/-- COP1X. -/
def execCop1x (_rest : BitVec 26) (s : State) : Out := raise (.cpu 1) s
/-- LWC1. -/
def execLwc1 (_rest : BitVec 26) (s : State) : Out := raise (.cpu 1) s
/-- LWC2. -/
def execLwc2 (_rest : BitVec 26) (s : State) : Out := raise (.cpu 2) s
/-- LDC1. -/
def execLdc1 (_rest : BitVec 26) (s : State) : Out := raise (.cpu 1) s
/-- LDC2. -/
def execLdc2 (_rest : BitVec 26) (s : State) : Out := raise (.cpu 2) s
/-- SWC1. -/
def execSwc1 (_rest : BitVec 26) (s : State) : Out := raise (.cpu 1) s
/-- SWC2. -/
def execSwc2 (_rest : BitVec 26) (s : State) : Out := raise (.cpu 2) s
/-- SDC1. -/
def execSdc1 (_rest : BitVec 26) (s : State) : Out := raise (.cpu 1) s
/-- SDC2. -/
def execSdc2 (_rest : BitVec 26) (s : State) : Out := raise (.cpu 2) s
/-- MOVCI (MOVF and MOVT). -/
def execMovci (_rest : BitVec 20) (s : State) : Out := raise (.cpu 1) s

end Sys2Proof.Machine
end

