-- ==== Sys2Proof/Machine/Dispatch.lean ====
section
/-! DEFINITION. One arm per instruction. -/

namespace Sys2Proof.Machine

def exec (i : Instr) (s : State) : Host.Outcome State Fault Refusal :=
  match i with
  | .add rd rs rt => Sys2Proof.Machine.execAdd rd rs rt s
  | .addi rt rs imm => Sys2Proof.Machine.execAddi rt rs imm s
  | .addu rd rs rt => Sys2Proof.Machine.execAddu rd rs rt s
  | .addiu rt rs imm => Sys2Proof.Machine.execAddiu rt rs imm s
  | .sub rd rs rt => Sys2Proof.Machine.execSub rd rs rt s
  | .slti rt rs imm => Sys2Proof.Machine.execSlti rt rs imm s
  | .subu rd rs rt => Sys2Proof.Machine.execSubu rd rs rt s
  | .sltiu rt rs imm => Sys2Proof.Machine.execSltiu rt rs imm s
  | .and rd rs rt => Sys2Proof.Machine.execAnd rd rs rt s
  | .andi rt rs imm => Sys2Proof.Machine.execAndi rt rs imm s
  | .or rd rs rt => Sys2Proof.Machine.execOr rd rs rt s
  | .ori rt rs imm => Sys2Proof.Machine.execOri rt rs imm s
  | .xor rd rs rt => Sys2Proof.Machine.execXor rd rs rt s
  | .xori rt rs imm => Sys2Proof.Machine.execXori rt rs imm s
  | .nor rd rs rt => Sys2Proof.Machine.execNor rd rs rt s
  | .lui rt imm => Sys2Proof.Machine.execLui rt imm s
  | .slt rd rs rt => Sys2Proof.Machine.execSlt rd rs rt s
  | .sltu rd rs rt => Sys2Proof.Machine.execSltu rd rs rt s
  | .movz rd rs rt => Sys2Proof.Machine.execMovz rd rs rt s
  | .movn rd rs rt => Sys2Proof.Machine.execMovn rd rs rt s
  | .clz rd rs rt => Sys2Proof.Machine.execClz rd rs rt s
  | .clo rd rs rt => Sys2Proof.Machine.execClo rd rs rt s
  | .seb rd rt => Sys2Proof.Machine.execSeb rd rt s
  | .seh rd rt => Sys2Proof.Machine.execSeh rd rt s
  | .wsbh rd rt => Sys2Proof.Machine.execWsbh rd rt s
  | .ext rt rs msbd lsb => Sys2Proof.Machine.execExt rt rs msbd lsb s
  | .ins rt rs msb lsb => Sys2Proof.Machine.execIns rt rs msb lsb s
  | .sll rd rt sa => Sys2Proof.Machine.execSll rd rt sa s
  | .sllv rd rt rs => Sys2Proof.Machine.execSllv rd rt rs s
  | .srl rd rt sa => Sys2Proof.Machine.execSrl rd rt sa s
  | .srlv rd rt rs => Sys2Proof.Machine.execSrlv rd rt rs s
  | .sra rd rt sa => Sys2Proof.Machine.execSra rd rt sa s
  | .srav rd rt rs => Sys2Proof.Machine.execSrav rd rt rs s
  | .rotr rd rt sa => Sys2Proof.Machine.execRotr rd rt sa s
  | .rotrv rd rt rs => Sys2Proof.Machine.execRotrv rd rt rs s
  | .mult rs rt => Sys2Proof.Machine.execMult rs rt s
  | .multu rs rt => Sys2Proof.Machine.execMultu rs rt s
  | .div rs rt => Sys2Proof.Machine.execDiv rs rt s
  | .divu rs rt => Sys2Proof.Machine.execDivu rs rt s
  | .mfhi rd => Sys2Proof.Machine.execMfhi rd s
  | .mthi rs => Sys2Proof.Machine.execMthi rs s
  | .mflo rd => Sys2Proof.Machine.execMflo rd s
  | .mtlo rs => Sys2Proof.Machine.execMtlo rs s
  | .mul rd rs rt => Sys2Proof.Machine.execMul rd rs rt s
  | .madd rs rt => Sys2Proof.Machine.execMadd rs rt s
  | .maddu rs rt => Sys2Proof.Machine.execMaddu rs rt s
  | .msub rs rt => Sys2Proof.Machine.execMsub rs rt s
  | .msubu rs rt => Sys2Proof.Machine.execMsubu rs rt s
  | .j index => Sys2Proof.Machine.execJ index s
  | .jal index => Sys2Proof.Machine.execJal index s
  | .jr rs hint => Sys2Proof.Machine.execJr rs hint s
  | .jalr rd rs hint => Sys2Proof.Machine.execJalr rd rs hint s
  | .beq rs rt off => Sys2Proof.Machine.execBeq rs rt off s
  | .bne rs rt off => Sys2Proof.Machine.execBne rs rt off s
  | .blez rs off => Sys2Proof.Machine.execBlez rs off s
  | .bgtz rs off => Sys2Proof.Machine.execBgtz rs off s
  | .beql rs rt off => Sys2Proof.Machine.execBeql rs rt off s
  | .bnel rs rt off => Sys2Proof.Machine.execBnel rs rt off s
  | .blezl rs off => Sys2Proof.Machine.execBlezl rs off s
  | .bgtzl rs off => Sys2Proof.Machine.execBgtzl rs off s
  | .bltz rs off => Sys2Proof.Machine.execBltz rs off s
  | .bgez rs off => Sys2Proof.Machine.execBgez rs off s
  | .bltzl rs off => Sys2Proof.Machine.execBltzl rs off s
  | .bgezl rs off => Sys2Proof.Machine.execBgezl rs off s
  | .bltzal rs off => Sys2Proof.Machine.execBltzal rs off s
  | .bgezal rs off => Sys2Proof.Machine.execBgezal rs off s
  | .bltzall rs off => Sys2Proof.Machine.execBltzall rs off s
  | .bgezall rs off => Sys2Proof.Machine.execBgezall rs off s
  | .lb rt base off => Sys2Proof.Machine.execLb rt base off s
  | .lbu rt base off => Sys2Proof.Machine.execLbu rt base off s
  | .lh rt base off => Sys2Proof.Machine.execLh rt base off s
  | .lhu rt base off => Sys2Proof.Machine.execLhu rt base off s
  | .lw rt base off => Sys2Proof.Machine.execLw rt base off s
  | .lwl rt base off => Sys2Proof.Machine.execLwl rt base off s
  | .lwr rt base off => Sys2Proof.Machine.execLwr rt base off s
  | .ll rt base off => Sys2Proof.Machine.execLl rt base off s
  | .sb rt base off => Sys2Proof.Machine.execSb rt base off s
  | .sh rt base off => Sys2Proof.Machine.execSh rt base off s
  | .sw rt base off => Sys2Proof.Machine.execSw rt base off s
  | .swl rt base off => Sys2Proof.Machine.execSwl rt base off s
  | .swr rt base off => Sys2Proof.Machine.execSwr rt base off s
  | .sc rt base off => Sys2Proof.Machine.execSc rt base off s
  | .pref hint base off => Sys2Proof.Machine.execPref hint base off s
  | .cache op base off => Sys2Proof.Machine.execCache op base off s
  | .sync stype => Sys2Proof.Machine.execSync stype s
  | .synci base off => Sys2Proof.Machine.execSynci base off s
  | .tge rs rt code => Sys2Proof.Machine.execTge rs rt code s
  | .tgeu rs rt code => Sys2Proof.Machine.execTgeu rs rt code s
  | .tlt rs rt code => Sys2Proof.Machine.execTlt rs rt code s
  | .tltu rs rt code => Sys2Proof.Machine.execTltu rs rt code s
  | .teq rs rt code => Sys2Proof.Machine.execTeq rs rt code s
  | .tne rs rt code => Sys2Proof.Machine.execTne rs rt code s
  | .tgei rs imm => Sys2Proof.Machine.execTgei rs imm s
  | .tgeiu rs imm => Sys2Proof.Machine.execTgeiu rs imm s
  | .tlti rs imm => Sys2Proof.Machine.execTlti rs imm s
  | .tltiu rs imm => Sys2Proof.Machine.execTltiu rs imm s
  | .teqi rs imm => Sys2Proof.Machine.execTeqi rs imm s
  | .tnei rs imm => Sys2Proof.Machine.execTnei rs imm s
  | .syscall code => Sys2Proof.Machine.execSyscall code s
  | .brk code => Sys2Proof.Machine.execBreak code s
  | .sdbbp code => Sys2Proof.Machine.execSdbbp code s
  | .mfc0 rt rd sel => Sys2Proof.Machine.execMfc0 rt rd sel s
  | .mtc0 rt rd sel => Sys2Proof.Machine.execMtc0 rt rd sel s
  | .rdpgpr rd rt => Sys2Proof.Machine.execRdpgpr rd rt s
  | .wrpgpr rd rt => Sys2Proof.Machine.execWrpgpr rd rt s
  | .di rt => Sys2Proof.Machine.execDi rt s
  | .ei rt => Sys2Proof.Machine.execEi rt s
  | .rdhwr rt rd => Sys2Proof.Machine.execRdhwr rt rd s
  | .tlbr => Sys2Proof.Machine.execTlbr s
  | .tlbwi => Sys2Proof.Machine.execTlbwi s
  | .tlbwr => Sys2Proof.Machine.execTlbwr s
  | .tlbp => Sys2Proof.Machine.execTlbp s
  | .eret => Sys2Proof.Machine.execEret s
  | .deret => Sys2Proof.Machine.execDeret s
  | .wait code => Sys2Proof.Machine.execWait code s
  | .cop1 rest => Sys2Proof.Machine.execCop1 rest s
  | .cop2 rest => Sys2Proof.Machine.execCop2 rest s
  | .cop1x rest => Sys2Proof.Machine.execCop1x rest s
  | .lwc1 rest => Sys2Proof.Machine.execLwc1 rest s
  | .lwc2 rest => Sys2Proof.Machine.execLwc2 rest s
  | .ldc1 rest => Sys2Proof.Machine.execLdc1 rest s
  | .ldc2 rest => Sys2Proof.Machine.execLdc2 rest s
  | .swc1 rest => Sys2Proof.Machine.execSwc1 rest s
  | .swc2 rest => Sys2Proof.Machine.execSwc2 rest s
  | .sdc1 rest => Sys2Proof.Machine.execSdc1 rest s
  | .sdc2 rest => Sys2Proof.Machine.execSdc2 rest s
  | .movci rest => Sys2Proof.Machine.execMovci rest s

end Sys2Proof.Machine
end

