-- ==== Sys2Proof/Machine/Reset.lean ====
section
/-! DEFINITION. The three chip resets while the machine runs (61_platform.md R591 to R594, 70_reset_and_hazards.md R820 to
R823). -/

namespace Sys2Proof.Machine

/-- The bit of RSR that records a cause (R590). -/
def ResetCause.bitNo : ResetCause → Nat
  | .powerOn => 0
  | .watchdog => 1
  | .hibernate => 2

/-- R572, R592, R593: registers that no reset initialises, or only a power-on reset. -/
def keptByWatchdog : List Nat := [Adr.CPCCR1, Adr.CPOCR, Adr.RTCSR, Adr.RTCSAR]

/-- R594: the registers a hibernate reset keeps. -/
def keptByHibernate : List Nat :=
  [Adr.CPCCR1, Adr.CPOCR, Adr.RTCSR, Adr.RTCSAR, Adr.RTCCR, Adr.CPCCR0, Adr.CPPCR, Adr.LCR, Adr.CDR, Adr.HCR,
   Adr.HER, Adr.HRER, Adr.HFER, Adr.HSR, Adr.HGSR0, Adr.HGSR1, Adr.HGSR2, Adr.HGSR3, Adr.HSPR]

/-- The registers a reset keeps. -/
def keptRegs : ResetCause → List Nat
  | .powerOn => [Adr.RTCSR, Adr.RTCSAR]
  | .watchdog => keptByWatchdog
  | .hibernate => keptByHibernate

/-- The listed registers take their values from `s`. -/
def keepRegs (s : State) : List Nat → State → State
  | [], t => t
  | a :: as, t => keepRegs s as (t.ioSet a (s.ioGet a))

/-- R573, R594: RTCGR.ADC and DIV are not reset; every reset clears LOCK. -/
def keepRtcgr (s t : State) : State := t.ioSet Adr.RTCGR (s.ioGet Adr.RTCGR &&& 0x03FFFFFF)

/-- R544, R594: a hibernate reset sets HCR.HGP. -/
def holdPins (c : ResetCause) (t : State) : State := if c = .hibernate then t.ioMod Adr.HCR (one 3) 0 else t

/-- The levels the outside drives stay; output pins held by HIBERNATE stay held. -/
def resetGpio (c : ResetCause) (g : GpioPins) : GpioPins :=
  if c = .hibernate then g else { g with held := Vector.replicate 4 0, heldLevel := Vector.replicate 4 0 }

/-- The devices after a reset: idle, with the pins the outside drives, and a delayed RTCSR write still on its way
(DESIGN CHOICE, log entry 21). -/
def resetDevices (c : ResetCause) (d : Devices) : Devices :=
  { Devices.reset with
    gpio := resetGpio c d.gpio, dma := { Devices.reset.dma with dreq1 := d.dma.dreq1 }, rtcWrite := d.rtcWrite }

/-- A cell of a SDRAM range of BOARD_MEMORY. -/
def inSdram (p : Params) (k : Nat) : Bool :=
  p.board.any fun r =>
    match r.bank with
    | .sdram _ => decide (r.base ≤ k) && decide (k < r.base + r.size)
    | _ => false

/-- R681: SDRAM loses its contents in a power-on reset; the other resets keep all memory (log entry 4). -/
def memAfterReset (c : ResetCause) (s : State) : List Host.Cell :=
  if c = .powerOn then s.mem.filter fun cell => !inSdram s.params cell.1 else s.mem

/-- R820 to R823: a reset of cause `c`. What the spec leaves arbitrary takes the value of the power-on reset state (log
entry 19). -/
def runtimeReset (c : ResetCause) (s : State) : State :=
  let r := State.resetWith s.params
  let t := { r with
    mem := memAfterReset c s, agenda := s.agenda, between := s.between, free := s.free, console := s.console,
    ejtag := s.ejtag.afterReset, dev := resetDevices c s.dev }
  holdPins c (keepRtcgr s ((keepRegs s (keptRegs c) t).ioSet Adr.RSR (one c.bitNo)))

end Sys2Proof.Machine
end

