-- ==== Sys2Proof/Machine/CoreStep.lean ====
section
/-! DEFINITION. One step of the core (00_scope.md R13): the asynchronous conditions of 60_exceptions.md R466 in their order,
fetch, decode, execute. -/

namespace Sys2Proof.Machine

/-! ### Conditions at the start of a step -/

/-- R466, R500: an NMI is taken outside debug mode; nothing else masks it. -/
def nmiDue (s : State) : Bool := s.nmiReq && !s.dm

/-- R626: single step. -/
def singleStepDue (s : State) : Bool := !s.dm && bit s.cp0.debug 8 && s.stepped

/-- A debug interrupt is requested: the DINT input or ECR.EjtagBrk. -/
def debugInterruptAsked (s : State) : Bool := s.dintReq || bit s.ejtag.ecr 12

/-- R626: a debug interrupt is taken outside debug mode. -/
def debugInterruptDue (s : State) : Bool := !s.dm && debugInterruptAsked s

/-- R72, R425: the wake conditions of WAIT other than reset: a request that Status.IM lets through, an NMI, a debug interrupt,
whether or not it can be taken now. -/
def wakeDue (s : State) : Bool := enabledRequests s != 0 || s.nmiReq || debugInterruptAsked s

/-- R545: IDLE and SLEEP end on a request of the INTC or a wake condition that is there at a turn of the core (log entry 12); a
single step that is due waits until they do (log entry 38). -/
def wakeClocks (s : State) : State :=
  if (s.powerMode == .idle || s.powerMode == .sleep) && (irqLine s || wakeDue s) then { s with powerMode := .normal } else s

/-- R546: an interrupt request that is there at a turn of the core cancels DOZE (log entry 12). -/
def wakeDoze (s : State) : State := if bit (s.ioGet Adr.LCR) 2 && irqLine s then s.ioMod Adr.LCR 0 (one 2) else s

/-- R545, R546, R549: the core has no clock. -/
def coreStopped (s : State) : Bool :=
  s.powerMode != .normal || (bit (s.ioGet Adr.LCR) 2 && field (s.ioGet Adr.LCR) 3 5 == 0)

/-- R491: a deferred watch exception is due. -/
def deferredWatchDue (s : State) : Bool := bit s.cp0.cause 22 && !s.exl && !s.erl && !s.dm

/-- R626: entry of the debug interrupt clears its request, the latched DINT input (log entry 39) and EjtagBrk. -/
def takeDebugInterrupt (s : State) : State :=
  debugEntry .dint { s with dintReq := false, ejtag := { s.ejtag with ecr := s.ejtag.ecr &&& ~~~(one 12) } }

/-! ### The instruction -/

/-- R173, R451: a word that is no instruction: CpU for a COP0 word where coprocessor 0 is not usable, else RI. -/
def reservedWord (w : Word) (s : State) : Out := if fOp w = 0x10#6 then privileged s (raise .ri s) else raise .ri s

/-- Decode and execute a word. -/
def runWord (w : Word) (s : State) : Out :=
  match decode w with
  | some i => exec i s
  | none => reservedWord w s

/-- Log entry 16: while the probe still serves a data access of the instruction `w`, the word is kept. A data access that meets
ECR.ProbEn = 0 is not posted, and the word is fetched anew. -/
def State.hold (s : State) (w : Word) : State :=
  { s with ejtag := { s.ejtag with held := if s.ejtag.pending then some w else none } }

/-- Apply a function to a next state. -/
def onNext (f : State → State) (o : Out) : Out :=
  match o with
  | .next s => .next (f s)
  | .fault r => .fault r
  | .refused r => .refused r

/-- R122: fetch, then execute. -/
def runInstruction (s : State) : Out := (fetch s).out fun w s1 => onNext (fun t => t.hold w) (runWord w s1)

/-- R626: the completion of a step in non-debug mode sets `stepped`, unless a delay slot is still to run. -/
def completed (before after : State) : State :=
  if before.dm || after.dm || after.inDelaySlot then after else { after with stepped := true }

/-- The part of a step after reset, NMI and debug requests: the wait, a deferred watch, interrupts, the instruction. An NMI or a
debug interrupt request that debug mode holds off ends the wait (R72) and stays pending. -/
def runOrInterrupt (s : State) : Out :=
  if s.waiting && !wakeDue s then .next s
  else
    let s1 := { s with waiting := false }
    if deferredWatchDue s1 then raise .watch s1
    else if interruptDue s1 then takeInterrupt s1
    else runInstruction s1

/-- R466: one step of a core that has its clock and no reset request. -/
def stepRunning (s : State) : Out :=
  if nmiDue s then .next (nmiEntry s)
  else if singleStepDue s then .next (debugEntry .dss s)
  else if debugInterruptDue s then .next (takeDebugInterrupt s)
  else runOrInterrupt s

/-- One step of the core. -/
def stepCore (s : State) : Out :=
  match s.resetReq with
  | some c => .next (runtimeReset c s)
  | none =>
    let s1 := wakeDoze (wakeClocks s)
    if coreStopped s1 then .next s1 else onNext (completed s1) (stepRunning s1)

/-- After a step of the core stores leave the write buffer, while the buses run: the stores to devices and those before them
(R552), and without other agents all of them (R141, log entry 11). -/
def settled (alone : Bool) (o : Out) : Out :=
  match o with
  | .next s => if busRuns s then (if alone then drainAll s else drainDevices s).toOut else .next s
  | .fault r => .fault r
  | .refused r => .refused r

/-! ### Placing an instruction where the next fetch finds it -/

/-- The memory cell that a fetch at the pc reads, if it reads one. -/
def fetchCell (s : State) : Option (Nat × Bool) :=
  match translate s.pc .fetch s with
  | .ok t _ =>
    match route s t.1.toNat with
    | .cell key _ => some (key, uncached t.2)
    | _ => none
  | _ => none

/-- Put the word `w` where the next fetch of the core reads it: in memory at the pc (a cached fetch then misses), or in place
of an answer of the probe. -/
def placeWord (w : Word) (s : State) : State :=
  match fetchCell s with
  | some (key, unc) =>
    let s1 := s.setMemBytes key (s.bytes 4 w)
    if unc then s1 else { s1 with icache := [] }
  | none => { s with ejtag := { s.ejtag with held := some w } }

end Sys2Proof.Machine
end

