-- ==== Sys2Proof/Machine/Step.lean ====
section
/-! DEFINITION. One step of the machine: the head of the agenda says which agent moves; an empty agenda lets the core run
alone (log entry 9). -/

namespace Sys2Proof.Machine

/-- One step. -/
def step (s : State) : Host.Outcome State Fault Refusal :=
  match s.agenda with
  | [] => settled true (stepCore s)
  | .core :: rest => settled false (stepCore { s with agenda := rest })
  | e :: rest => (applyEvent e { s with agenda := rest }).toOut

/-- The state in which the next step fetches and runs the word `w` (log entry 10). -/
def State.withFetchWord (s : State) (_nbits w : Nat) : State :=
  placeWord (BitVec.ofNat 32 w) { s with agenda := [], between := [], ejtag := { s.ejtag with held := none } }

end Sys2Proof.Machine
end

