-- ==== Sys2Proof/Safety.lean ====
section
/-! DEFINITION. What claims are stated in: a step that goes on, the conditions under which an access goes through without an
event, and the invariants of the machine. -/

namespace Sys2Proof.Machine

/-! ### Outcomes -/

/-- The outcome is a next state with property `P`. -/
def Next (o : Out) (P : State → Prop) : Prop := ∃ t, o = .next t ∧ P t

/-- Every byte of memory reads the same in both states. -/
def SameMemory (s t : State) : Prop := ∀ k, t.memByte k = s.memByte k

/-- R310: `t` stands at the instruction that follows: the branch target after a delay slot, else `pc + 4`. -/
def Advanced (s t : State) : Prop := t.pc = s.pending.getD (s.pc + 4) ∧ t.pending = none ∧ t.inDelaySlot = false

/-- An instruction completed that only advances. -/
structure OnlyAdvanced (s t : State) : Prop where
  advanced : Advanced s t
  rest : t = { s with pc := t.pc, pending := t.pending, inDelaySlot := t.inDelaySlot }

/-- An instruction completed that writes general register `rd` with `v` and nothing else; a write to register 0 is
discarded (R21). -/
structure Wrote (rd : Reg) (v : Word) (s t : State) : Prop where
  regs : ∀ r, t.reg r = if r = rd ∧ rd ≠ 0#5 then v else s.reg r
  advanced : Advanced s t
  memory : SameMemory s t
  rest : t = { s with gpr := t.gpr, pc := t.pc, pending := t.pending, inDelaySlot := t.inDelaySlot }

/-- An instruction completed that writes HI and LO and nothing else. -/
structure WroteHiLo (hi lo : Word) (s t : State) : Prop where
  hi : t.hi = hi
  lo : t.lo = lo
  advanced : Advanced s t
  memory : SameMemory s t
  rest : t = { s with hi := t.hi, lo := t.lo, pc := t.pc, pending := t.pending, inDelaySlot := t.inDelaySlot }

/-- R310: a branch or jump completed; its delay slot runs next. -/
def Branched (taken : Bool) (target : Word) (s t : State) : Prop :=
  t = { s with pc := s.pc + 4, pending := (if taken then some target else none), inDelaySlot := true }

/-- R311: a branch-likely completed: as a branch when taken, else its delay slot is skipped. -/
def BranchedLikely (taken : Bool) (target : Word) (s t : State) : Prop :=
  if taken then Branched true target s t else t = { s with pc := s.pc + 8, pending := none, inDelaySlot := false }

/-- `t` differs from `s` in general register `rd` alone, which holds `v` (R21). -/
structure Linked (rd : Reg) (v : Word) (s t : State) : Prop where
  regs : ∀ r, t.reg r = if r = rd ∧ rd ≠ 0#5 then v else s.reg r
  rest : t = { s with gpr := t.gpr }

/-! ### An access without an event -/

/-- No data breakpoint looks at accesses of this kind (R635). -/
def NoDataBreak (s : State) : Prop := bit s.drseg.dbc 0 = false ∧ bit s.drseg.dbc 2 = false

/-- A data access of kind `k` at `va` translates to `pa` with cache attribute `c`, meets no watch register or breakpoint,
and is not in dseg. -/
structure PlainAccess (k : Kind) (va pa : Word) (c : BitVec 3) (s : State) : Prop where
  notDseg : dataDseg va s = false
  translated : translate va k s = .ok (pa, c) s
  noWatch : watchMatch va k s = false
  noBreak : NoDataBreak s

/-- A `PlainAccess` that the cache attribute sends to the bus. -/
def UncachedAccess (k : Kind) (va pa : Word) (s : State) : Prop := ∃ c, uncached c = true ∧ PlainAccess k va pa c s

/-- The memory cells that answer `n` bytes from `pa` on start at `key`. -/
def BackedBy (s : State) (pa key : Nat) (kind : RegionKind) : Prop := route s pa = .cell key kind

/-- R120: an aligned load of `n` bytes at `va` reads the memory cells from `key` on, no store of the core is still in the write
buffer, and no other agent moves before the transfer (D8). -/
structure LoadsFrom (va : Word) (n key : Nat) (s : State) (pa : Word) : Prop where
  aligned : aligned va n = true
  plain : UncachedAccess .load va pa s
  backed : ∃ kind, BackedBy s ((plainLanes s va n).addr pa) key kind
  drained : s.wbuf = []
  alone : s.between = []

/-- R121: an aligned store of `n` bytes at `va` goes to physical address `pa`, and the write buffer has room. -/
structure StoresTo (va : Word) (n : Nat) (s : State) (pa : Word) : Prop where
  aligned : aligned va n = true
  plain : UncachedAccess .store va pa s
  room : s.wbuf.length < 16

/-- A store completed: it entered the write buffer (R141) and nothing else changed. -/
structure Buffered (pa : Nat) (bs : List Byte) (s t : State) : Prop where
  advanced : Advanced s t
  memory : SameMemory s t
  rest : t = { s with wbuf := s.wbuf ++ [(pa, bs)], pc := t.pc, pending := t.pending, inDelaySlot := t.inDelaySlot }

/-- R365: four RAM cells answer the aligned word around `va`, an access at `va` of kind `k` has no event, and no other agent
moves before the transfer (D8). -/
structure WordAround (k : Kind) (va pa : Word) (key : Nat) (s : State) : Prop where
  plain : UncachedAccess k va pa s
  backed : ∀ i, i < 4 → BackedBy s (pa.toNat / 4 * 4 + i) (key + i) .ram
  alone : s.between = []

/-- The number the bytes `bs`, lowest address first, stand for in big-endian or little-endian order (R101). -/
def bytesNat (big : Bool) : List Byte → Nat
  | [] => 0
  | b :: bs => if big then b.toNat * 256 ^ bs.length + bytesNat big bs else b.toNat + 256 * bytesNat big bs

/-- The number the memory cells `key` to `key + n - 1` hold in the byte order of the machine (R101). -/
def cellsNat (s : State) (key n : Nat) : Nat := bytesNat s.params.bigEndian (s.memBytes key n)

/-! ### Results -/

/-- What a checked addition does with the exact result `x`: `rd` receives it when it is a 32-bit signed number, else Ov is
raised and no general register changes (R201). -/
def CheckedResult (i : Instr) (rd : Reg) (x : Int) (s : State) : Prop :=
  if -2 ^ 31 ≤ x ∧ x < 2 ^ 31 then ∃ v, Next (exec i s) (Wrote rd v s) ∧ v.toInt = x
  else exec i s = .next (takeException .ov s) ∧ (takeException .ov s).gpr = s.gpr

/-- `n` leading bits of `w` are `b`, and the next one, if there is one, is not. -/
def LeadingBits (b : Bool) (w : Word) (n : Nat) : Prop :=
  n ≤ 32 ∧ (∀ i, i < n → bit w (31 - i) = b) ∧ (n < 32 → bit w (31 - n) = !b)

/-- The instruction completes: HI and LO together hold the 64-bit number `x` modulo 2^64, nothing else changes. -/
def HiLoHolds (i : Instr) (x : Int) (s : State) : Prop :=
  ∃ hi lo : Word, Next (exec i s) (WroteHiLo hi lo s) ∧ ((hi.toNat * 2 ^ 32 + lo.toNat : Nat) : Int) = x % 2 ^ 64

/-- R312: the target of a branch at `pc`, computed with numbers. -/
def branchGoesTo (s : State) (off : Imm16) : Word := BitVec.ofInt 32 (s.pc.toNat + 4 + 4 * off.toInt)

/-- R330: the target of J and JAL: the upper four bits of the address of the delay slot, the index, two zero bits. -/
def jumpGoesTo (s : State) (index : BitVec 26) : Word :=
  BitVec.ofNat 32 ((s.pc + 4).toNat / 2 ^ 28 * 2 ^ 28 + 4 * index.toNat)

/-- A conditional trap: Tr when the condition holds, else no effect (R400). -/
def TrapsWhen (i : Instr) (c : Prop) (s : State) : Prop :=
  (c → exec i s = .next (takeException .tr s)) ∧ (¬c → Next (exec i s) (OnlyAdvanced s))

/-- The branches and jumps (R313). -/
def isBranch : Instr → Bool
  | .j _ | .jal _ | .jr _ _ | .jalr _ _ _ => true
  | .beq _ _ _ | .bne _ _ _ | .blez _ _ | .bgtz _ _ | .bltz _ _ | .bgez _ _ => true
  | .beql _ _ _ | .bnel _ _ _ | .blezl _ _ | .bgtzl _ _ | .bltzl _ _ | .bgezl _ _ => true
  | .bltzal _ _ | .bgezal _ _ | .bltzall _ _ | .bgezall _ _ => true
  | _ => false

/-- R432: the registers MTC0 writes through a plain mask, with the mask; of Debug R57 adds MCheckP, bit 23 (log entry 14). -/
def plainMask : Cp0Reg → Option Word
  | .entryLo0 | .entryLo1 => some 0x03FFFFFF
  | .context => some 0xFF800000
  | .pageMask => some 0x01FFE000
  | .entryHi => some 0xFFFFE0FF
  | .intCtl => some 0x000003E0
  | .epc | .depc | .errorEpc | .desave | .watchLo => some 0xFFFFFFFF
  | .ebase => some 0x3FFFF000
  | .config => some 0x00000007
  | .config7 => some 0x00000005
  | .debug => some (0x10100100 ||| if Config.mcheckPWritten then 0x00800000 else 0)
  | .errCtl => some 0x30000000
  | .tagLo => some 0xFFFFFC03
  | .random | .badVAddr | .prid | .config1 | .config2 | .config3 | .llAddr | .dataLo => some 0
  | .index | .wired | .status | .cause | .watchHi => none

/-- `t` is `s` after the entry `newEntry s.cp0` has been written to TLB index `i`, and nothing else (R447). -/
def EntryWritten (i : Nat) (s t : State) : Prop :=
  t.tlbAt i = newEntry s.cp0 ∧ (∀ j, j < 32 → j ≠ i → t.tlbAt j = s.tlbAt j) ∧ Advanced s t ∧
  t = { s with tlb := t.tlb, pc := t.pc, pending := t.pending, inDelaySlot := t.inDelaySlot }

/-- No condition of R466 other than an interrupt is due, and the core has its clock. -/
structure Undisturbed (s : State) : Prop where
  turn : s.agenda = []
  noReset : s.resetReq = none
  clock : s.powerMode = .normal
  noDoze : bit (s.ioGet Adr.LCR) 2 = false
  noNmi : nmiDue s = false
  noSingleStep : singleStepDue s = false
  noDebugInterrupt : debugInterruptDue s = false
  noDeferredWatch : deferredWatchDue s = false

/-! ### Invariants -/

/-- Memory, device registers and caches are in canonical form. -/
def StorageOk (s : State) : Prop :=
  Memory.wf s.mem = true ∧ Sparse.wf (ioReset s.params) s.io = true ∧ Sparse.wf lineDefault s.icache = true ∧
    Sparse.wf lineDefault s.dcache = true

/-- R447: no two TLB entries can match one address in one address space. -/
def TlbOk (s : State) : Prop :=
  ∀ i j, i < Params.tlbSize s.params → j < Params.tlbSize s.params → i ≠ j → (s.tlbAt i).overlaps (s.tlbAt j) = false

/-- R21, R68: register 0 stores 0, and the write buffer holds at most 16 words. -/
def CoreOk (s : State) : Prop := s.gpr[0] = 0 ∧ s.wbuf.length ≤ 16

/-- The bits of a CP0 register outside `mask` are 0. -/
abbrev Within (mask v : Word) : Prop := v &&& ~~~mask = 0

/-- R29 to R63: the reserved bits of the CP0 registers are 0, and Wired and Random are TLB indexes. -/
structure Cp0Ok (s : State) : Prop where
  index : Within 0x8000001F s.cp0.index
  status : Within 0x1A68FF17 s.cp0.status
  cause : Within 0xB0C0037C s.cp0.cause
  entryLo0 : Within 0x03FFFFFF s.cp0.entryLo0
  entryLo1 : Within 0x03FFFFFF s.cp0.entryLo1
  entryHi : Within 0xFFFFE0FF s.cp0.entryHi
  pageMask : Within 0x01FFE000 s.cp0.pageMask
  context : Within 0xFFFFFFF0 s.cp0.context
  intCtl : Within 0x000003E0 s.cp0.intCtl
  ebase : Within 0x3FFFF000 s.cp0.ebase
  config7 : Within 0x00000005 s.cp0.config7
  llAddr : Within 0x0FFFFFFF s.cp0.llAddr
  watchHi : Within 0x40FF0FFF s.cp0.watchHi
  debug : Within 0xDC907D3F s.cp0.debug
  errCtl : Within 0x30000000 s.cp0.errCtl
  tagLo : Within 0xFFFFFC0F s.cp0.tagLo
  wired : s.cp0.wired.toNat ≤ s.params.lastIndex
  random : s.cp0.random.toNat ≤ s.params.lastIndex

end Sys2Proof.Machine
end

