-- ==== Sys2Proof/Certificates/Slice0/Obligations.lean ====
section
/-! DEFINITION. The statements for the provers: what the numbered rules of spec/ say the instructions and the machine do. -/

open Sys2Proof Sys2Proof.Machine

/-! ### Arithmetic and logic (spec/40_alu.md) -/

/-- R202, R204, R206: ADDU, SUBU and ADDIU, with their encodings, complete with the sum or difference modulo 2^32, and change
nothing else. -/
def Obligations.WrappingArithmetic : Prop :=
  ∀ (s : State) (rd rs rt : Reg) (imm : Imm16),
    (encode (.addu rd rs rt) = rType 0x00 rs rt rd 0 0x21 ∧ encode (.subu rd rs rt) = rType 0x00 rs rt rd 0 0x23 ∧
      encode (.addiu rt rs imm) = iType 0x09 rs rt imm) ∧
    (∃ v, Next (exec (.addu rd rs rt) s) (Wrote rd v s) ∧ v.toNat = ((s.reg rs).toNat + (s.reg rt).toNat) % 2 ^ 32) ∧
    (∃ v, Next (exec (.subu rd rs rt) s) (Wrote rd v s) ∧
      (v.toNat : Int) = ((s.reg rs).toNat - (s.reg rt).toNat : Int) % 2 ^ 32) ∧
    (∃ v, Next (exec (.addiu rt rs imm) s) (Wrote rt v s) ∧ (v.toNat : Int) = ((s.reg rs).toNat + imm.toInt) % 2 ^ 32)

/-- R201, R203, R205: ADD, SUB and ADDI, with their encodings, complete with the exact sum or difference, or raise Ov (code
12) when it does not fit in 32 signed bits. -/
def Obligations.CheckedArithmetic : Prop :=
  ∀ (s : State) (rd rs rt : Reg) (imm : Imm16),
    (encode (.add rd rs rt) = rType 0x00 rs rt rd 0 0x20 ∧ encode (.sub rd rs rt) = rType 0x00 rs rt rd 0 0x22 ∧
      encode (.addi rt rs imm) = iType 0x08 rs rt imm ∧ Exc.ov.code = 12) ∧
    CheckedResult (.add rd rs rt) rd ((s.reg rs).toInt + (s.reg rt).toInt) s ∧
    CheckedResult (.sub rd rs rt) rd ((s.reg rs).toInt - (s.reg rt).toInt) s ∧
    CheckedResult (.addi rt rs imm) rt ((s.reg rs).toInt + imm.toInt) s

/-- R210 to R217: the logical instructions and LUI, with their encodings, complete with the bitwise result, and change nothing
else. -/
def Obligations.LogicalResults : Prop :=
  ∀ (s : State) (rd rs rt : Reg) (imm : Imm16),
    (encode (.and rd rs rt) = rType 0x00 rs rt rd 0 0x24 ∧ encode (.or rd rs rt) = rType 0x00 rs rt rd 0 0x25 ∧
      encode (.xor rd rs rt) = rType 0x00 rs rt rd 0 0x26 ∧ encode (.nor rd rs rt) = rType 0x00 rs rt rd 0 0x27 ∧
      encode (.andi rt rs imm) = iType 0x0C rs rt imm ∧ encode (.ori rt rs imm) = iType 0x0D rs rt imm ∧
      encode (.xori rt rs imm) = iType 0x0E rs rt imm ∧ encode (.lui rt imm) = iType 0x0F 0 rt imm) ∧
    (∃ v, Next (exec (.and rd rs rt) s) (Wrote rd v s) ∧ ∀ i, bit v i = (bit (s.reg rs) i && bit (s.reg rt) i)) ∧
    (∃ v, Next (exec (.or rd rs rt) s) (Wrote rd v s) ∧ ∀ i, bit v i = (bit (s.reg rs) i || bit (s.reg rt) i)) ∧
    (∃ v, Next (exec (.xor rd rs rt) s) (Wrote rd v s) ∧ ∀ i, bit v i = (bit (s.reg rs) i ^^ bit (s.reg rt) i)) ∧
    (∃ v, Next (exec (.nor rd rs rt) s) (Wrote rd v s) ∧ ∀ i, i < 32 → bit v i = !(bit (s.reg rs) i || bit (s.reg rt) i)) ∧
    (∃ v, Next (exec (.andi rt rs imm) s) (Wrote rt v s) ∧ ∀ i, bit v i = (bit (s.reg rs) i && imm.getLsbD i)) ∧
    (∃ v, Next (exec (.ori rt rs imm) s) (Wrote rt v s) ∧ ∀ i, bit v i = (bit (s.reg rs) i || imm.getLsbD i)) ∧
    (∃ v, Next (exec (.xori rt rs imm) s) (Wrote rt v s) ∧ ∀ i, bit v i = (bit (s.reg rs) i ^^ imm.getLsbD i)) ∧
    (∃ v, Next (exec (.lui rt imm) s) (Wrote rt v s) ∧ v.toNat = imm.toNat * 2 ^ 16)

/-- R220 to R223, R230, R231: the comparisons complete with 1 or 0; MOVZ and MOVN complete, they write `rd` exactly when their
condition holds, and otherwise only advance. -/
def Obligations.ComparisonsAndMoves : Prop :=
  ∀ (s : State) (rd rs rt : Reg) (imm : Imm16),
    (encode (.slt rd rs rt) = rType 0x00 rs rt rd 0 0x2A ∧ encode (.sltu rd rs rt) = rType 0x00 rs rt rd 0 0x2B ∧
      encode (.slti rt rs imm) = iType 0x0A rs rt imm ∧ encode (.sltiu rt rs imm) = iType 0x0B rs rt imm ∧
      encode (.movz rd rs rt) = rType 0x00 rs rt rd 0 0x0A ∧ encode (.movn rd rs rt) = rType 0x00 rs rt rd 0 0x0B) ∧
    Next (exec (.slt rd rs rt) s) (Wrote rd (if (s.reg rs).toInt < (s.reg rt).toInt then 1 else 0) s) ∧
    Next (exec (.sltu rd rs rt) s) (Wrote rd (if (s.reg rs).toNat < (s.reg rt).toNat then 1 else 0) s) ∧
    Next (exec (.slti rt rs imm) s) (Wrote rt (if (s.reg rs).toInt < imm.toInt then 1 else 0) s) ∧
    Next (exec (.sltiu rt rs imm) s) (Wrote rt (if (s.reg rs).toNat < (imm.signExtend 32).toNat then 1 else 0) s) ∧
    (s.reg rt = 0 →
      Next (exec (.movz rd rs rt) s) (Wrote rd (s.reg rs) s) ∧ Next (exec (.movn rd rs rt) s) (OnlyAdvanced s)) ∧
    (s.reg rt ≠ 0 →
      Next (exec (.movn rd rs rt) s) (Wrote rd (s.reg rs) s) ∧ Next (exec (.movz rd rs rt) s) (OnlyAdvanced s))

/-- R238 to R242: CLZ and CLO complete with the number of leading zeros or ones, SEB and SEH with the sign-extended byte or
halfword, WSBH with the bytes of each halfword swapped. -/
def Obligations.CountsAndByteOperations : Prop :=
  ∀ (s : State) (rd rs rt : Reg),
    (encode (.clz rd rs rt) = rType 0x1C rs rt rd 0 0x20 ∧ encode (.clo rd rs rt) = rType 0x1C rs rt rd 0 0x21 ∧
      encode (.seb rd rt) = rType 0x1F 0 rt rd 0x10 0x20 ∧ encode (.seh rd rt) = rType 0x1F 0 rt rd 0x18 0x20 ∧
      encode (.wsbh rd rt) = rType 0x1F 0 rt rd 0x02 0x20) ∧
    (∃ v, Next (exec (.clz rd rs rt) s) (Wrote rd v s) ∧ LeadingBits false (s.reg rs) v.toNat) ∧
    (∃ v, Next (exec (.clo rd rs rt) s) (Wrote rd v s) ∧ LeadingBits true (s.reg rs) v.toNat) ∧
    (∃ v, Next (exec (.seb rd rt) s) (Wrote rd v s) ∧ v.toInt = ((s.reg rt).setWidth 8).toInt) ∧
    (∃ v, Next (exec (.seh rd rt) s) (Wrote rd v s) ∧ v.toInt = ((s.reg rt).setWidth 16).toInt) ∧
    (∃ v, Next (exec (.wsbh rd rt) s) (Wrote rd v s) ∧
      ∀ i, i < 8 → bit v i = bit (s.reg rt) (8 + i) ∧ bit v (8 + i) = bit (s.reg rt) i ∧
        bit v (16 + i) = bit (s.reg rt) (24 + i) ∧ bit v (24 + i) = bit (s.reg rt) (16 + i))

/-- R244, R245, U16: EXT and INS, with their encodings, complete. With a legal field EXT right-justifies bits `lsb + msbd :
lsb` and INS replaces bits `msb : lsb`; with an impossible one `rt` receives a free value. Nothing else changes. The free
value is that of log entry 8. -/
def Obligations.BitFields : Prop :=
  ∀ (s : State) (rt rs : Reg) (m lsb : BitVec 5),
    (encode (.ext rt rs m lsb) = rType 0x1F rs rt m lsb 0x00 ∧ encode (.ins rt rs m lsb) = rType 0x1F rs rt m lsb 0x04) ∧
    (lsb.toNat + m.toNat ≤ 31 →
      ∃ v, Next (exec (.ext rt rs m lsb) s) (Wrote rt v s) ∧
        ∀ i, bit v i = (decide (i ≤ m.toNat) && bit (s.reg rs) (lsb.toNat + i))) ∧
    (lsb.toNat ≤ m.toNat →
      ∃ v, Next (exec (.ins rt rs m lsb) s) (Wrote rt v s) ∧
        ∀ i, bit v i = if lsb.toNat ≤ i ∧ i ≤ m.toNat then bit (s.reg rs) (i - lsb.toNat) else bit (s.reg rt) i) ∧
    (31 < lsb.toNat + m.toNat →
      Next (exec (.ext rt rs m lsb) s) (Wrote rt (Config.freeWord s.free) { s with free := s.free + 1 })) ∧
    (m.toNat < lsb.toNat →
      Next (exec (.ins rt rs m lsb) s) (Wrote rt (Config.freeWord s.free) { s with free := s.free + 1 }))

/-! ### Shifts, multiply, divide, HI and LO (spec/41_shift.md, spec/42_muldiv.md) -/

/-- R260 to R267: the shifts complete: left, logical right, arithmetic right, by `sa` or by the low five bits of `rs`; so do
the rotates: bit i of the result is bit (i + count) mod 32 of `rt`. -/
def Obligations.ShiftsAndRotates : Prop :=
  ∀ (s : State) (rd rt rs : Reg) (sa : BitVec 5),
    let count := (s.reg rs).toNat % 32
    (encode (.sll rd rt sa) = rType 0x00 0 rt rd sa 0x00 ∧ encode (.srl rd rt sa) = rType 0x00 0 rt rd sa 0x02 ∧
      encode (.sra rd rt sa) = rType 0x00 0 rt rd sa 0x03 ∧ encode (.sllv rd rt rs) = rType 0x00 rs rt rd 0 0x04 ∧
      encode (.srlv rd rt rs) = rType 0x00 rs rt rd 0 0x06 ∧ encode (.srav rd rt rs) = rType 0x00 rs rt rd 0 0x07 ∧
      encode (.rotr rd rt sa) = rType 0x00 1 rt rd sa 0x02 ∧ encode (.rotrv rd rt rs) = rType 0x00 rs rt rd 1 0x06) ∧
    (∃ v, Next (exec (.sll rd rt sa) s) (Wrote rd v s) ∧ v.toNat = (s.reg rt).toNat * 2 ^ sa.toNat % 2 ^ 32) ∧
    (∃ v, Next (exec (.srl rd rt sa) s) (Wrote rd v s) ∧ v.toNat = (s.reg rt).toNat / 2 ^ sa.toNat) ∧
    (∃ v, Next (exec (.sra rd rt sa) s) (Wrote rd v s) ∧ v.toInt = (s.reg rt).toInt / 2 ^ sa.toNat) ∧
    (∃ v, Next (exec (.sllv rd rt rs) s) (Wrote rd v s) ∧ v.toNat = (s.reg rt).toNat * 2 ^ count % 2 ^ 32) ∧
    (∃ v, Next (exec (.srlv rd rt rs) s) (Wrote rd v s) ∧ v.toNat = (s.reg rt).toNat / 2 ^ count) ∧
    (∃ v, Next (exec (.srav rd rt rs) s) (Wrote rd v s) ∧ v.toInt = (s.reg rt).toInt / 2 ^ count) ∧
    (∃ v, Next (exec (.rotr rd rt sa) s) (Wrote rd v s) ∧ ∀ i, i < 32 → bit v i = bit (s.reg rt) ((i + sa.toNat) % 32)) ∧
    (∃ v, Next (exec (.rotrv rd rt rs) s) (Wrote rd v s) ∧ ∀ i, i < 32 → bit v i = bit (s.reg rt) ((i + count) % 32))

/-- R281, R282, R290 to R294: the products and the multiply-accumulate instructions complete with the exact 64-bit value in HI
and LO; MUL completes with the low 32 bits of the product in `rd`, HI and LO hold free values. The free values are those of
log entry 8. -/
def Obligations.Products : Prop :=
  ∀ (s : State) (rd rs rt : Reg),
    (encode (.mult rs rt) = rType 0x00 rs rt 0 0 0x18 ∧ encode (.multu rs rt) = rType 0x00 rs rt 0 0 0x19 ∧
      encode (.madd rs rt) = rType 0x1C rs rt 0 0 0x00 ∧ encode (.maddu rs rt) = rType 0x1C rs rt 0 0 0x01 ∧
      encode (.msub rs rt) = rType 0x1C rs rt 0 0 0x04 ∧ encode (.msubu rs rt) = rType 0x1C rs rt 0 0 0x05 ∧
      encode (.mul rd rs rt) = rType 0x1C rs rt rd 0 0x02) ∧
    HiLoHolds (.mult rs rt) ((s.reg rs).toInt * (s.reg rt).toInt) s ∧
    HiLoHolds (.multu rs rt) ((s.reg rs).toNat * (s.reg rt).toNat) s ∧
    HiLoHolds (.madd rs rt) (s.hi.toNat * 2 ^ 32 + s.lo.toNat + (s.reg rs).toInt * (s.reg rt).toInt) s ∧
    HiLoHolds (.maddu rs rt) (s.hi.toNat * 2 ^ 32 + s.lo.toNat + (s.reg rs).toNat * (s.reg rt).toNat) s ∧
    HiLoHolds (.msub rs rt) (s.hi.toNat * 2 ^ 32 + s.lo.toNat - (s.reg rs).toInt * (s.reg rt).toInt) s ∧
    HiLoHolds (.msubu rs rt) (s.hi.toNat * 2 ^ 32 + s.lo.toNat - (s.reg rs).toNat * (s.reg rt).toNat) s ∧
    (∃ v, v.toNat = (s.reg rs).toNat * (s.reg rt).toNat % 2 ^ 32 ∧
      Next (exec (.mul rd rs rt) s)
        (Wrote rd v { s with hi := Config.freeWord s.free, lo := Config.freeWord (s.free + 1), free := s.free + 2 }))

/-- R283, R284, D13, U17: DIV and DIVU, with their encodings, complete. With a nonzero divisor dividend = divisor * LO + HI,
with a remainder smaller than the divisor and, for DIV, not of the other sign than the dividend; in the one overflowing case
of DIV LO = 0x80000000 and HI = 0. With a zero divisor HI and LO receive free values. Nothing else changes. The free values
are those of log entry 8. -/
def Obligations.Division : Prop :=
  ∀ (s : State) (rs rt : Reg),
    (encode (.div rs rt) = rType 0x00 rs rt 0 0 0x1A ∧ encode (.divu rs rt) = rType 0x00 rs rt 0 0 0x1B) ∧
    (s.reg rt ≠ 0 →
      (∃ hi lo : Word, Next (exec (.div rs rt) s) (WroteHiLo hi lo s) ∧
        if (s.reg rs).toInt = -2 ^ 31 ∧ (s.reg rt).toInt = -1 then lo = 0x80000000 ∧ hi = 0
        else
          (s.reg rs).toInt = (s.reg rt).toInt * lo.toInt + hi.toInt ∧ hi.toInt.natAbs < (s.reg rt).toInt.natAbs ∧
            0 ≤ hi.toInt * (s.reg rs).toInt) ∧
      (∃ hi lo : Word, Next (exec (.divu rs rt) s) (WroteHiLo hi lo s) ∧
        (s.reg rs).toNat = (s.reg rt).toNat * lo.toNat + hi.toNat ∧ hi.toNat < (s.reg rt).toNat)) ∧
    (s.reg rt = 0 →
      ∀ i ∈ [Instr.div rs rt, .divu rs rt], Next (exec i s)
        (WroteHiLo (Config.freeWord s.free) (Config.freeWord (s.free + 1)) { s with free := s.free + 2 }))

/-- R285 to R288, D14: the moves between HI, LO and the general registers, with their encodings, complete. -/
def Obligations.HiLoMoves : Prop :=
  ∀ (s : State) (r : Reg),
    (encode (.mfhi r) = rType 0x00 0 0 r 0 0x10 ∧ encode (.mthi r) = rType 0x00 r 0 0 0 0x11 ∧
      encode (.mflo r) = rType 0x00 0 0 r 0 0x12 ∧ encode (.mtlo r) = rType 0x00 r 0 0 0 0x13) ∧
    Next (exec (.mfhi r) s) (Wrote r s.hi s) ∧ Next (exec (.mflo r) s) (Wrote r s.lo s) ∧
    Next (exec (.mthi r) s) (WroteHiLo (s.reg r) s.lo s) ∧ Next (exec (.mtlo r) s) (WroteHiLo s.hi (s.reg r) s)

/-! ### Branches and jumps (spec/43_branch.md) -/

/-- R310 to R312, R315 to R320, R323 to R328: outside a delay slot the conditional branches complete: the delay slot runs
next, and after it the target when the condition holds. A branch-likely that is not taken skips its delay slot. -/
def Obligations.ConditionalBranches : Prop :=
  ∀ (s : State) (rs rt : Reg) (off : Imm16), s.inDelaySlot = false →
    (encode (.beq rs rt off) = iType 0x04 rs rt off ∧ encode (.bne rs rt off) = iType 0x05 rs rt off ∧
      encode (.blez rs off) = iType 0x06 rs 0 off ∧ encode (.bgtz rs off) = iType 0x07 rs 0 off ∧
      encode (.bltz rs off) = iType 0x01 rs 0x00 off ∧ encode (.bgez rs off) = iType 0x01 rs 0x01 off ∧
      encode (.beql rs rt off) = iType 0x14 rs rt off ∧ encode (.bnel rs rt off) = iType 0x15 rs rt off ∧
      encode (.blezl rs off) = iType 0x16 rs 0 off ∧ encode (.bgtzl rs off) = iType 0x17 rs 0 off ∧
      encode (.bltzl rs off) = iType 0x01 rs 0x02 off ∧ encode (.bgezl rs off) = iType 0x01 rs 0x03 off) ∧
    let goesTo := branchGoesTo s off
    let equal := decide (s.reg rs = s.reg rt)
    let x := (s.reg rs).toInt
    Next (exec (.beq rs rt off) s) (Branched equal goesTo s) ∧ Next (exec (.bne rs rt off) s) (Branched (!equal) goesTo s) ∧
    Next (exec (.blez rs off) s) (Branched (decide (x ≤ 0)) goesTo s) ∧
    Next (exec (.bgtz rs off) s) (Branched (decide (0 < x)) goesTo s) ∧
    Next (exec (.bltz rs off) s) (Branched (decide (x < 0)) goesTo s) ∧
    Next (exec (.bgez rs off) s) (Branched (decide (0 ≤ x)) goesTo s) ∧
    Next (exec (.beql rs rt off) s) (BranchedLikely equal goesTo s) ∧
    Next (exec (.bnel rs rt off) s) (BranchedLikely (!equal) goesTo s) ∧
    Next (exec (.blezl rs off) s) (BranchedLikely (decide (x ≤ 0)) goesTo s) ∧
    Next (exec (.bgtzl rs off) s) (BranchedLikely (decide (0 < x)) goesTo s) ∧
    Next (exec (.bltzl rs off) s) (BranchedLikely (decide (x < 0)) goesTo s) ∧
    Next (exec (.bgezl rs off) s) (BranchedLikely (decide (0 ≤ x)) goesTo s)

/-- R321, R322, R329, R335, U19: the linking branches, with their encodings. Outside a delay slot and with rs not 31 they
complete: register 31 holds `pc + 8`, taken or not, and the condition uses the register before the link. With rs = 31 they are
refused. -/
def Obligations.LinkingBranches : Prop :=
  ∀ (s : State) (rs : Reg) (off : Imm16), s.inDelaySlot = false →
    (encode (.bltzal rs off) = iType 0x01 rs 0x10 off ∧ encode (.bgezal rs off) = iType 0x01 rs 0x11 off ∧
      encode (.bltzall rs off) = iType 0x01 rs 0x12 off ∧ encode (.bgezall rs off) = iType 0x01 rs 0x13 off) ∧
    (rs ≠ 31#5 → ∃ u, Linked 31#5 (s.pc + 8) s u ∧
      Next (exec (.bltzal rs off) s) (Branched (decide ((s.reg rs).toInt < 0)) (branchGoesTo s off) u) ∧
      Next (exec (.bgezal rs off) s) (Branched (decide (0 ≤ (s.reg rs).toInt)) (branchGoesTo s off) u) ∧
      Next (exec (.bltzall rs off) s) (BranchedLikely (decide ((s.reg rs).toInt < 0)) (branchGoesTo s off) u) ∧
      Next (exec (.bgezall rs off) s) (BranchedLikely (decide (0 ≤ (s.reg rs).toInt)) (branchGoesTo s off) u)) ∧
    (rs = 31#5 → ∀ i ∈ [Instr.bltzal rs off, .bgezal rs off, .bltzall rs off, .bgezall rs off],
      exec i s = .refused .linkRegister)

/-- R330 to R334, U19: the jumps, with their encodings. Outside a delay slot they complete: J and JR write no register, JAL
links in register 31, JALR in `rd`. JALR with rd = rs is refused. -/
def Obligations.Jumps : Prop :=
  ∀ (s : State) (rd rs : Reg) (index : BitVec 26) (hint : BitVec 5), s.inDelaySlot = false →
    (encode (.j index) = jType 0x02 index ∧ encode (.jal index) = jType 0x03 index ∧
      encode (.jr rs hint) = rType 0x00 rs 0 0 hint 0x08 ∧ encode (.jalr rd rs hint) = rType 0x00 rs 0 rd hint 0x09) ∧
    Next (exec (.j index) s) (Branched true (jumpGoesTo s index) s) ∧
    Next (exec (.jr rs hint) s) (Branched true (s.reg rs) s) ∧
    (∃ u, Linked 31#5 (s.pc + 8) s u ∧ Next (exec (.jal index) s) (Branched true (jumpGoesTo s index) u)) ∧
    (rd ≠ rs → ∃ u, Linked rd (s.pc + 8) s u ∧ Next (exec (.jalr rd rs hint) s) (Branched true (s.reg rs) u)) ∧
    (rd = rs → exec (.jalr rd rs hint) s = .refused .linkRegister)

/-- R313, U19: a branch or jump in a delay slot is refused; so are ERET, WAIT and, in debug mode, DERET there, when
coprocessor 0 is usable. -/
def Obligations.RefusedControl : Prop :=
  ∀ (s : State), s.inDelaySlot = true →
    (∀ i, isBranch i = true → exec i s = .refused .delaySlotControl) ∧
    (s.cp0Usable = true →
      exec .eret s = .refused .delaySlotControl ∧ (∀ c, exec (.wait c) s = .refused .delaySlotControl) ∧
        (s.dm = true → exec .deret s = .refused .delaySlotControl))

/-! ### Loads and stores (spec/20_memory.md, spec/44_loadstore.md) -/

/-- R101, R351 to R355: a load whose access is uncached, aligned, without event, and answered by memory cells completes: `rt`
holds the bytes read, in the byte order of the machine, sign- or zero-extended, and nothing else changes. That a load waits
for an empty write buffer is the model's choice (log entry 11); other agents may move between transfers (log entry 9). -/
def Obligations.AlignedLoads : Prop :=
  ∀ (s : State) (rt base : Reg) (off : Imm16) (pa : Word) (key : Nat),
    (LoadsFrom (effAddr base off s) 1 key s pa →
      (∃ v, Next (exec (.lb rt base off) s) (Wrote rt v s) ∧ v.toInt = (s.memByte key).toInt) ∧
      (∃ v, Next (exec (.lbu rt base off) s) (Wrote rt v s) ∧ v.toNat = (s.memByte key).toNat)) ∧
    (LoadsFrom (effAddr base off s) 2 key s pa →
      (∃ v, Next (exec (.lh rt base off) s) (Wrote rt v s) ∧ v.toInt = (BitVec.ofNat 16 (cellsNat s key 2)).toInt) ∧
      (∃ v, Next (exec (.lhu rt base off) s) (Wrote rt v s) ∧ v.toNat = cellsNat s key 2)) ∧
    (LoadsFrom (effAddr base off s) 4 key s pa →
      ∃ v, Next (exec (.lw rt base off) s) (Wrote rt v s) ∧ v.toNat = cellsNat s key 4)

/-- R101, R141, R356 to R358: a store whose access is uncached, aligned and without event completes: the low bytes of `rt`, in
the byte order of the machine, enter the write buffer for the physical address; no byte of memory changes before they leave
it. The write buffer is that of log entry 11. -/
def Obligations.AlignedStores : Prop :=
  ∀ (s : State) (rt base : Reg) (off : Imm16) (pa : Word),
    let puts := fun (i : Instr) (n : Nat) => StoresTo (effAddr base off s) n s pa →
      ∃ bs, bs.length = n ∧ bytesNat s.params.bigEndian bs = (s.reg rt).toNat % 256 ^ n ∧
        Next (exec i s) (Buffered ((plainLanes s (effAddr base off s) n).addr pa) bs s)
    puts (.sb rt base off) 1 ∧ puts (.sh rt base off) 2 ∧ puts (.sw rt base off) 4

/-- R380, R381, R54: LL under the conditions of a load completes: `rt` holds the word, LLbit is set, LLAddr holds the physical
address shifted right by 4. SC under the conditions of a store completes: with LLbit = 1 it stores `rt` and sets `rt` to 1,
with LLbit = 0 it stores nothing and sets `rt` to 0; LLbit keeps its value. The write buffer is that of log entry 11. -/
def Obligations.LinkedAccesses : Prop :=
  ∀ (s : State) (rt base : Reg) (off : Imm16) (pa : Word),
    (∀ key, LoadsFrom (effAddr base off s) 4 key s pa →
      ∃ v, v.toNat = cellsNat s key 4 ∧
        Next (exec (.ll rt base off) s)
          (Wrote rt v { s with cp0 := { s.cp0 with llAddr := BitVec.ofNat 32 (pa.toNat / 16) }, llBit := true })) ∧
    (StoresTo (effAddr base off s) 4 s pa →
      (s.llBit = true → ∃ bs, bs.length = 4 ∧ bytesNat s.params.bigEndian bs = (s.reg rt).toNat ∧
        Next (exec (.sc rt base off) s)
          (Wrote rt 1 { s with wbuf := s.wbuf ++ [((plainLanes s (effAddr base off s) 4).addr pa, bs)] })) ∧
      (s.llBit = false → Next (exec (.sc rt base off) s) (Wrote rt 0 s)))

/-- R384, R141, R142: SYNC completes when every buffered store goes to a byte range of RAM and no other agent moves between
the transfers: the buffer is empty after it. With one buffered store its bytes, and no others, have changed in memory. When
stores leave the buffer, and the moves of other agents between transfers, are the model's choice (log entries 9 and 11). -/
def Obligations.SyncDrains : Prop :=
  ∀ (s : State) (stype : BitVec 5), s.between = [] →
    ((∀ e ∈ s.wbuf, ∃ key, BackedBy s e.1 key .ram) → Next (exec (.sync stype) s) fun t =>
      Advanced s t ∧ t.wbuf = [] ∧
        t = { s with wbuf := [], mem := t.mem, pc := t.pc, pending := t.pending, inDelaySlot := t.inDelaySlot }) ∧
    (∀ pa bs key, s.wbuf = [(pa, bs)] → BackedBy s pa key .ram → Memory.wf s.mem = true →
      Next (exec (.sync stype) s) fun t =>
        (∀ i (h : i < bs.length), t.memByte (key + i) = bs[i]) ∧ ∀ k, k < key ∨ key + bs.length ≤ k → t.memByte k = s.memByte k)

/-- R366, R367: LWL and LWR whose access is uncached, without event, and answered by RAM complete with the merge of the
aligned word and `rt` that the rules give. `k` is the byte index of the address. The empty write buffer is the model's
condition (log entry 11). -/
def Obligations.UnalignedLoads : Prop :=
  ∀ (s : State) (rt base : Reg) (off : Imm16) (pa : Word) (key : Nat),
    WordAround .load (effAddr base off s) pa key s → s.wbuf = [] →
      let b := (effAddr base off s).toNat % 4
      let k := if s.bigEndianCPU then 3 - b else b
      let w := cellsNat s key 4
      let r := (s.reg rt).toNat
      (∃ v, Next (exec (.lwl rt base off) s) (Wrote rt v s) ∧
        v.toNat = w % 256 ^ (k + 1) * 256 ^ (3 - k) + r % 256 ^ (3 - k)) ∧
      (∃ v, Next (exec (.lwr rt base off) s) (Wrote rt v s) ∧
        v.toNat = r / 256 ^ (4 - k) * 256 ^ (4 - k) + w / 256 ^ k)

/-- R368, R369: SWL and SWR under these conditions complete: one store enters the write buffer, of the k + 1 upper or the 4 - k
lower bytes of `rt`, and when it leaves, the aligned word is the merge that the rules give and no other byte has changed. The
write buffer is that of log entry 11. -/
def Obligations.UnalignedStores : Prop :=
  ∀ (s : State) (rt base : Reg) (off : Imm16) (pa : Word) (key : Nat),
    WordAround .store (effAddr base off s) pa key s → s.wbuf = [] → Memory.wf s.mem = true →
      let b := (effAddr base off s).toNat % 4
      let k := if s.bigEndianCPU then 3 - b else b
      let w := cellsNat s key 4
      let r := (s.reg rt).toNat
      let leaves := fun (lo n x w' : Nat) (t : State) =>
        Advanced s t ∧ SameMemory s t ∧
          (∃ bs, bs.length = n ∧ bytesNat s.params.bigEndian bs = x ∧ t.wbuf = [(pa.toNat / 4 * 4 + lo, bs)]) ∧
          t = { s with wbuf := t.wbuf, pc := t.pc, pending := t.pending, inDelaySlot := t.inDelaySlot } ∧
          Next (drainAll t).toOut fun u =>
            cellsNat u key 4 = w' ∧ (∀ i, i < key ∨ key + 4 ≤ i → u.memByte i = s.memByte i)
      Next (exec (.swl rt base off) s)
        (leaves (if s.params.bigEndian then 3 - k else 0) (k + 1) (r / 256 ^ (3 - k))
          (w / 256 ^ (k + 1) * 256 ^ (k + 1) + r / 256 ^ (3 - k))) ∧
      Next (exec (.swr rt base off) s)
        (leaves (if s.params.bigEndian then 0 else k) (4 - k) (r % 256 ^ (4 - k)) (r % 256 ^ (4 - k) * 256 ^ k + w % 256 ^ k))

/-- R131, R132: a cached word access without event, at an address that may be cached (R126). Where it hits a data cache line, a
load reads the line; a write-back store changes the line, which becomes dirty, and nothing on the bus; a write-through store
to RAM, with room in the write buffer, changes the line, whose dirty flag keeps its value, and enters the write buffer. Where
a load misses, with an empty write buffer, no agent moving between the transfers, and memory cells behind the line, a way of the
set (R130: an invalid one if there is one), which is not both valid and dirty, receives the line from memory, valid, clean and
with the tag of the address, no other line changes, and `rt` receives the word. The write buffer is that of log entry 11; that
a dirty line stays dirty, that a filled line is unlocked and which way is taken is log entry 18. -/
def Obligations.CachedAccesses : Prop :=
  ∀ (s : State) (rt base : Reg) (off : Imm16) (pa : Word) (c : BitVec 3),
    let ea := effAddr base off s
    let o := pa.toNat % 32 / 4 * 4
    ea.toNat % 4 = 0 → cacheable s (pa.toNat / 4 * 4) = true →
    (∀ key, dHit pa.toNat s = some key →
      (PlainAccess .load ea pa c s → c ≠ 2 → c ≠ 7 → ∃ v, Next (exec (.lw rt base off) s) (Wrote rt v s) ∧
        v.toNat = bytesNat s.params.bigEndian ((s.dline key).read o 4)) ∧
      (PlainAccess .store ea pa c s → Sparse.wf lineDefault s.dcache = true →
        let written := fun (t : State) =>
          bytesNat s.params.bigEndian ((t.dline key).read o 4) = (s.reg rt).toNat ∧
          (∀ i, i < 32 → i < o ∨ o + 4 ≤ i → (t.dline key).read i 1 = (s.dline key).read i 1) ∧
          (t.dline key).valid = (s.dline key).valid ∧ (t.dline key).tag = (s.dline key).tag ∧
          (t.dline key).lock = (s.dline key).lock ∧ (∀ j, j ≠ key → t.dline j = s.dline j) ∧ Advanced s t ∧
          t = { s with dcache := t.dcache, wbuf := t.wbuf, pc := t.pc, pending := t.pending, inDelaySlot := t.inDelaySlot }
        (c ∉ [0, 1, 2, 7] → Next (exec (.sw rt base off) s) fun t =>
          written t ∧ (t.dline key).dirty = true ∧ t.wbuf = s.wbuf) ∧
        (c ∈ [0, 1] → (∃ k, BackedBy s (pa.toNat / 4 * 4) k .ram) → s.wbuf.length < 16 → Next (exec (.sw rt base off) s) fun t =>
          written t ∧ (t.dline key).dirty = (s.dline key).dirty ∧
          ∃ bs, bs.length = 4 ∧ bytesNat s.params.bigEndian bs = (s.reg rt).toNat ∧
            t.wbuf = s.wbuf ++ [(pa.toNat / 4 * 4, bs)]))) ∧
    (dHit pa.toNat s = none → PlainAccess .load ea pa c s → c ≠ 2 → c ≠ 7 → Sparse.wf lineDefault s.dcache = true →
      s.wbuf = [] → s.between = [] →
      let way := fun (w : Nat) => 4 * (pa.toNat / 32 % cacheSets s.params.dcache) + w
      ∃ w, w < 4 ∧ ((s.dline (way w)).valid = false ∨ ∀ j, j < 4 → (s.dline (way j)).valid = true) ∧
        ∀ (key : Nat) (kind : RegionKind), ¬((s.dline (way w)).valid = true ∧ (s.dline (way w)).dirty = true) →
          (∀ i, i < 8 → BackedBy s (pa.toNat / 32 * 32 + 4 * i) (key + 4 * i) kind) →
          ∃ v, v.toNat = cellsNat s (key + o) 4 ∧ Next (exec (.lw rt base off) s) fun t =>
            Wrote rt v { s with dcache := t.dcache, free := s.free + 1 } t ∧
            (∀ i, i < 32 → (t.dline (way w)).read i 1 = [s.memByte (key + i)]) ∧ (t.dline (way w)).valid = true ∧
            (t.dline (way w)).dirty = false ∧ (t.dline (way w)).lock = false ∧
            (t.dline (way w)).tag = BitVec.ofNat 22 (pa.toNat / 1024) ∧ (∀ j, j ≠ way w → t.dline j = s.dline j))

/-- R104, R489, R490: a misaligned halfword or word access raises AdEL or AdES with the effective address, before any
translation, and changes nothing but what the exception entry changes. -/
def Obligations.MisalignedAccess : Prop :=
  ∀ (s : State) (rt base : Reg) (off : Imm16),
    let ea := effAddr base off s
    (ea.toNat % 2 ≠ 0 →
      exec (.lh rt base off) s = .next (takeException (.adel ea) s) ∧
      exec (.lhu rt base off) s = .next (takeException (.adel ea) s) ∧
      exec (.sh rt base off) s = .next (takeException (.ades ea) s)) ∧
    (ea.toNat % 4 ≠ 0 →
      exec (.lw rt base off) s = .next (takeException (.adel ea) s) ∧
      exec (.ll rt base off) s = .next (takeException (.adel ea) s) ∧
      exec (.sw rt base off) s = .next (takeException (.ades ea) s) ∧
      exec (.sc rt base off) s = .next (takeException (.ades ea) s))

/-- R491, R55, R56: outside debug mode and with EXL = ERL = 0 an aligned LW or SW whose address translates raises Watch when
the watch register is enabled for it, its bits 31:3 agree with WatchLo but for the masked ones, and G is set or the ASID
agrees: the bit of WatchHi that reports the access is set, and nothing else changes before the exception is entered. -/
def Obligations.WatchedAccess : Prop :=
  ∀ (s : State) (rt base : Reg) (off : Imm16),
    let ea := effAddr base off s
    let hi := s.cp0.watchHi
    ea.toNat % 4 = 0 → s.dm = false → s.exl = false → s.erl = false →
    (∀ i, 3 ≤ i → i < 32 → ¬(i < 12 ∧ bit hi i = true) → bit ea i = bit s.cp0.watchLo i) →
    (bit hi 30 = true ∨ field hi 16 8 = s.asid.toNat) →
    (bit s.cp0.watchLo 1 = true → (∃ t, translate ea .load s = .ok t s) →
      exec (.lw rt base off) s = .next (takeException .watch { s with cp0 := { s.cp0 with watchHi := hi ||| 2 } })) ∧
    (bit s.cp0.watchLo 0 = true → (∃ t, translate ea .store s = .ok t s) →
      exec (.sw rt base off) s = .next (takeException .watch { s with cp0 := { s.cp0 with watchHi := hi ||| 1 } }))

/-- R388, D16: CACHE with coprocessor 0 usable, at a kseg0 address outside user mode, completes. Index Invalidate and Hit
Invalidate clear V; Index Store Tag writes tag, L and V from TagLo, and the line becomes clean; Index Load Tag of the
instruction cache reads them into TagLo, and the word that ea selects into DataLo; the reserved operations do nothing. Nothing
else changes. That the reserved operations do nothing and Hit Invalidate keeps the dirty flag is log entry 32; that of two ways
with one tag the Hit operations act on the lowest alone is log entry 18. -/
def Obligations.CacheOperations : Prop :=
  ∀ (s : State) (base : Reg) (off : Imm16),
    let ea := effAddr base off s
    let pa := ea.toNat % 2 ^ 29
    let ik := 4 * (ea.toNat / 32 % cacheSets s.params.icache) + ea.toNat / (32 * cacheSets s.params.icache) % 4
    let dk := 4 * (ea.toNat / 32 % cacheSets s.params.dcache) + ea.toNat / (32 * cacheSets s.params.dcache) % 4
    let iOnly := fun (k : Nat) (l : CacheLine) (t : State) =>
      Advanced s t ∧ t.iline k = l ∧ (∀ j, j ≠ k → t.iline j = s.iline j) ∧
        t = { s with icache := t.icache, pc := t.pc, pending := t.pending, inDelaySlot := t.inDelaySlot }
    let dOnly := fun (k : Nat) (l : CacheLine) (t : State) =>
      Advanced s t ∧ t.dline k = l ∧ (∀ j, j ≠ k → t.dline j = s.dline j) ∧
        t = { s with dcache := t.dcache, pc := t.pc, pending := t.pending, inDelaySlot := t.inDelaySlot }
    let fromTagLo := fun (l : CacheLine) =>
      { l with tag := s.cp0.tagLo.extractLsb' 10 22, lock := bit s.cp0.tagLo 1, valid := bit s.cp0.tagLo 0, dirty := false }
    s.cp0Usable = true → s.userMode = false → inKseg0 ea = true → Sparse.wf lineDefault s.icache = true →
    Sparse.wf lineDefault s.dcache = true →
      Next (exec (.cache 0x00 base off) s) (iOnly ik { s.iline ik with valid := false }) ∧
      Next (exec (.cache 0x08 base off) s) (iOnly ik (fromTagLo (s.iline ik))) ∧
      Next (exec (.cache 0x09 base off) s) (dOnly dk (fromTagLo (s.dline dk))) ∧
      (∀ k, iHit pa s = some k → Next (exec (.cache 0x10 base off) s) (iOnly k { s.iline k with valid := false })) ∧
      (∀ k, dHit pa s = some k → Next (exec (.cache 0x11 base off) s) (dOnly k { s.dline k with valid := false })) ∧
      (iHit pa s = none → Next (exec (.cache 0x10 base off) s) (OnlyAdvanced s)) ∧
      (dHit pa s = none → Next (exec (.cache 0x11 base off) s) (OnlyAdvanced s)) ∧
      (Next (exec (.cache 0x04 base off) s) fun t =>
        field t.cp0.tagLo 10 22 = (s.iline ik).tag.toNat ∧ bit t.cp0.tagLo 1 = (s.iline ik).lock ∧
        bit t.cp0.tagLo 0 = (s.iline ik).valid ∧
        t.cp0.dataLo.toNat = bytesNat s.params.bigEndian ((s.iline ik).read (ea.toNat % 32 / 4 * 4) 4) ∧ Advanced s t ∧
        t = { s with cp0 := { s.cp0 with tagLo := t.cp0.tagLo, dataLo := t.cp0.dataLo }, pc := t.pc, pending := t.pending,
                     inDelaySlot := t.inDelaySlot }) ∧
      (∀ op, op.toNat ∉ [0x00, 0x04, 0x08, 0x10, 0x14, 0x1C, 0x01, 0x05, 0x09, 0x11, 0x15, 0x19, 0x1D] →
        Next (exec (.cache op base off) s) (OnlyAdvanced s))

/-- R385, R386, D15: PREF completes without effect. SYNCI outside user mode completes: at an uncached kseg1 address without
effect; at a cached kseg0 address that the data cache does not hold, an instruction line that holds it becomes invalid, and
nothing else changes. That of two ways with one tag SYNCI acts on the lowest alone is the model's choice, log entry 18. -/
def Obligations.SynciAndPref : Prop :=
  ∀ (s : State) (hint : BitVec 5) (base : Reg) (off : Imm16),
    let ea := effAddr base off s
    let pa := ea.toNat % 2 ^ 29
    encode (.pref hint base off) = iType 0x33 base hint off ∧
    Next (exec (.pref hint base off) s) (OnlyAdvanced s) ∧
    (s.userMode = false →
      (inKseg1 ea = true → Next (exec (.synci base off) s) (OnlyAdvanced s)) ∧
      (inKseg0 ea = true → uncached s.cp0.k0 = false → dHit pa s = none → Sparse.wf lineDefault s.icache = true →
        Next (exec (.synci base off) s) fun t => Advanced s t ∧
          (∀ key, iHit pa s = some key →
            t.iline key = { s.iline key with valid := false } ∧ ∀ j, j ≠ key → t.iline j = s.iline j) ∧
          (iHit pa s = none → t.icache = s.icache) ∧
          t = { s with icache := t.icache, pc := t.pc, pending := t.pending, inDelaySlot := t.inDelaySlot }))

/-! ### Exceptions, traps and returns (spec/60_exceptions.md, spec/45_trap_system.md, spec/62_ejtag.md) -/

/-- R43, R461, R470, R471, R474: the code of each exception, and what an ordinary exception taken outside debug mode leaves:
ExcCode, and CE, which is the number of the coprocessor for CpU and 0 else, whatever EXL is; EXL set. With EXL = 0: EPC and
Cause.BD, and the vector of the exception. With EXL = 1 EPC and Cause.BD keep their values and the vector is the general one.
No delay slot is left, and nothing else than coprocessor 0 and the pc changes. -/
def Obligations.ExceptionEntry : Prop :=
  (∀ off va refill n,
    [Exc.int off, .mod va, .tlbl va refill, .tlbs va refill, .adel va, .ades va, .sys, .bp, .ri, .cpu n, .ov, .tr, .watch,
     .mcheck].map (fun e => e.code.toNat) = [0, 1, 2, 3, 4, 5, 8, 9, 10, 11, 12, 13, 23, 24]) ∧
  ∀ (s : State) (e : Exc), s.dm = false →
    let t := takeException e s
    let base : Word := if bit s.cp0.status 22 then 0xBFC00200 else 0x80000000 ||| (s.cp0.ebase &&& 0x3FFFF000)
    field t.cp0.cause 2 5 = e.code.toNat ∧
    (field t.cp0.cause 28 2 = match e with
      | .cpu n => n.toNat
      | _ => 0) ∧
    t.cp0.status = s.cp0.status ||| 2 ∧ t.pending = none ∧ t.inDelaySlot = false ∧
    t = { s with cp0 := t.cp0, pc := t.pc, pending := t.pending, inDelaySlot := t.inDelaySlot } ∧
    (s.exl = false →
      t.cp0.epc = (if s.inDelaySlot then s.pc - 4 else s.pc) ∧ bit t.cp0.cause 31 = s.inDelaySlot ∧
      t.pc = base + match e with
        | .tlbl _ true => 0x000
        | .tlbs _ true => 0x000
        | .int off => off
        | _ => 0x180) ∧
    (s.exl = true → t.cp0.epc = s.cp0.epc ∧ bit t.cp0.cause 31 = bit s.cp0.cause 31 ∧ t.pc = base + 0x180)

/-- R472: outside debug mode AdEL and AdES write the failing address to BadVAddr alone; the TLB exceptions TLBL, TLBS and Mod
write it to BadVAddr, and its bits 31:13 to Context.BadVPN2 and EntryHi.VPN2, while EntryHi.ASID keeps its value. Every other
exception writes none of the three registers. -/
def Obligations.FailingAddress : Prop :=
  ∀ (s : State) (e : Exc), s.dm = false →
    let t := takeException e s
    (∀ va, e = .adel va ∨ e = .ades va →
      t.cp0.badVAddr = va ∧ t.cp0.context = s.cp0.context ∧ t.cp0.entryHi = s.cp0.entryHi) ∧
    (∀ va r, e = .tlbl va r ∨ e = .tlbs va r ∨ e = .mod va →
      t.cp0.badVAddr = va ∧ field t.cp0.context 4 19 = va.toNat / 2 ^ 13 ∧ field t.cp0.entryHi 13 19 = va.toNat / 2 ^ 13 ∧
        t.asid = s.asid) ∧
    ((∃ off n, e ∈ [Exc.int off, .sys, .bp, .ri, .cpu n, .ov, .tr, .watch, .mcheck]) →
      t.cp0.badVAddr = s.cp0.badVAddr ∧ t.cp0.context = s.cp0.context ∧ t.cp0.entryHi = s.cp0.entryHi)

/-- R400 to R412, R415, R416, R440, R450: SYSCALL, BREAK, RDHWR and every instruction of an absent coprocessor take their
exception; a conditional trap takes Tr when its condition holds, and otherwise only advances. -/
def Obligations.TrapInstructions : Prop :=
  ∀ (s : State) (rs rt : Reg) (code : BitVec 10) (imm : Imm16) (c : BitVec 20) (r : BitVec 26),
    let a := s.reg rs
    let b := s.reg rt
    let u := (imm.signExtend 32).toNat
    (encode (.tge rs rt code) = tType rs rt code 0x30 ∧ encode (.tgeu rs rt code) = tType rs rt code 0x31 ∧
      encode (.tlt rs rt code) = tType rs rt code 0x32 ∧ encode (.tltu rs rt code) = tType rs rt code 0x33 ∧
      encode (.teq rs rt code) = tType rs rt code 0x34 ∧ encode (.tne rs rt code) = tType rs rt code 0x36 ∧
      encode (.tgei rs imm) = iType 0x01 rs 0x08 imm ∧ encode (.tgeiu rs imm) = iType 0x01 rs 0x09 imm ∧
      encode (.tlti rs imm) = iType 0x01 rs 0x0A imm ∧ encode (.tltiu rs imm) = iType 0x01 rs 0x0B imm ∧
      encode (.teqi rs imm) = iType 0x01 rs 0x0C imm ∧ encode (.tnei rs imm) = iType 0x01 rs 0x0E imm ∧
      encode (.syscall c) = cType 0x00 c 0x0C ∧ encode (.brk c) = cType 0x00 c 0x0D ∧
      encode (.rdhwr rt rs) = rType 0x1F 0 rt rs 0 0x3B) ∧
    TrapsWhen (.tge rs rt code) (b.toInt ≤ a.toInt) s ∧ TrapsWhen (.tgeu rs rt code) (b.toNat ≤ a.toNat) s ∧
    TrapsWhen (.tlt rs rt code) (a.toInt < b.toInt) s ∧ TrapsWhen (.tltu rs rt code) (a.toNat < b.toNat) s ∧
    TrapsWhen (.teq rs rt code) (a = b) s ∧ TrapsWhen (.tne rs rt code) (a ≠ b) s ∧
    TrapsWhen (.tgei rs imm) (imm.toInt ≤ a.toInt) s ∧ TrapsWhen (.tgeiu rs imm) (u ≤ a.toNat) s ∧
    TrapsWhen (.tlti rs imm) (a.toInt < imm.toInt) s ∧ TrapsWhen (.tltiu rs imm) (a.toNat < u) s ∧
    TrapsWhen (.teqi rs imm) (a.toInt = imm.toInt) s ∧ TrapsWhen (.tnei rs imm) (a.toInt ≠ imm.toInt) s ∧
    exec (.syscall c) s = .next (takeException .sys s) ∧ exec (.brk c) s = .next (takeException .bp s) ∧
    exec (.rdhwr rt rs) s = .next (takeException .ri s) ∧
    (∀ i ∈ [Instr.cop1 r, .cop1x r, .lwc1 r, .ldc1 r, .swc1 r, .sdc1 r, .movci c],
      exec i s = .next (takeException (.cpu 1) s)) ∧
    (∀ i ∈ [Instr.cop2 r, .lwc2 r, .ldc2 r, .swc2 r, .sdc2 r], exec i s = .next (takeException (.cpu 2) s))

/-- R417, R625, R627: SDBBP, with its encoding. Outside debug mode it enters debug mode: DEPC, DBD, the cause bits, DM, Doze
and Halt, the debug vector. In debug mode it sets DExcCode to 9 and goes to the vector again. Nothing else changes. -/
def Obligations.DebugBreakpoint : Prop :=
  ∀ (s : State) (code : BitVec 20),
    let vector : Word := if bit s.ejtag.ecr 14 then 0xFF200200 else 0xBFC00480
    encode (.sdbbp code) = cType 0x1C code 0x3F ∧
    (s.dm = false → Next (exec (.sdbbp code) s) fun t =>
      t.cp0.depc = (if s.inDelaySlot then s.pc - 4 else s.pc) ∧ bit t.cp0.debug 31 = s.inDelaySlot ∧
      field t.cp0.debug 0 6 = 2 ∧ t.dm = true ∧ bit t.cp0.debug 27 = s.waiting ∧ bit t.cp0.debug 26 = false ∧
      (∀ i, 6 ≤ i → i < 26 ∨ i = 28 ∨ i = 29 → bit t.cp0.debug i = bit s.cp0.debug i) ∧
      t = { s with cp0 := { s.cp0 with depc := t.cp0.depc, debug := t.cp0.debug }, waiting := false, pc := vector,
                   pending := none, inDelaySlot := false }) ∧
    (s.dm = true → Next (exec (.sdbbp code) s) fun t =>
      field t.cp0.debug 10 5 = 9 ∧ (∀ i, i < 10 ∨ 15 ≤ i → bit t.cp0.debug i = bit s.cp0.debug i) ∧
      t = { s with cp0 := { s.cp0 with debug := t.cp0.debug }, pc := vector, pending := none, inDelaySlot := false })

/-- R627: an exception condition met in debug mode sets Debug.DExcCode to its code and goes to the debug vector; nothing else
changes. In debug mode no interrupt, NMI, watch or debug condition is due and no hardware breakpoint matches; every reset
leaves debug mode. That DCR.IntE gates interrupts is log entry 13. -/
def Obligations.DebugModeExceptions : Prop :=
  ∀ (s : State) (e : Exc), s.dm = true →
    (let t := takeException e s
     field t.cp0.debug 10 5 = e.code.toNat ∧ (∀ i, i < 10 ∨ 15 ≤ i → bit t.cp0.debug i = bit s.cp0.debug i) ∧
     t = { s with cp0 := { s.cp0 with debug := t.cp0.debug }, pc := if bit s.ejtag.ecr 14 then 0xFF200200 else 0xBFC00480,
                  pending := none, inDelaySlot := false }) ∧
    interruptDue s = false ∧ nmiDue s = false ∧ deferredWatchDue s = false ∧ singleStepDue s = false ∧
    debugInterruptDue s = false ∧ (∀ va k, watchMatch va k s = false) ∧ (∀ i, ibMatch i s = false) ∧
    (∀ k va l, dbAddrMatch k va l s = false) ∧ ∀ c, (runtimeReset c s).dm = false

/-- R420, R421, R628: ERET with coprocessor 0 usable, outside a delay slot, completes: from ErrorEPC with ERL cleared when ERL
= 1, else from EPC with EXL cleared; LLbit is cleared. DERET in debug mode, outside a delay slot, completes: from DEPC with
DM, IEXI and `stepped` cleared; LLbit and Status keep their values. Outside debug mode, with coprocessor 0 usable, DERET
raises RI. That DERET outside debug mode raises RI in a delay slot too is log entry 29. -/
def Obligations.ExceptionReturns : Prop :=
  ∀ (s : State),
    encode .eret = 0x42000018 ∧ encode .deret = 0x4200001F ∧
    (s.cp0Usable = true → s.inDelaySlot = false → Next (exec .eret s) fun t =>
      t.pc = (if s.erl then s.cp0.errorEpc else s.cp0.epc) ∧
      (∀ i, i < 32 → bit t.cp0.status i = (bit s.cp0.status i && decide (i ≠ if s.erl then 2 else 1))) ∧
      t = { s with cp0 := { s.cp0 with status := t.cp0.status }, llBit := false, pc := t.pc, pending := none,
                   inDelaySlot := false }) ∧
    (s.dm = true → s.inDelaySlot = false → Next (exec .deret s) fun t =>
      t.pc = s.cp0.depc ∧
      (∀ i, i < 32 → bit t.cp0.debug i = (bit s.cp0.debug i && decide (i ≠ 30 ∧ i ≠ 20))) ∧
      t = { s with cp0 := { s.cp0 with debug := t.cp0.debug }, stepped := false, pc := t.pc, pending := none,
                   inDelaySlot := false }) ∧
    (s.dm = false → s.cp0Usable = true → exec .deret s = .next (takeException .ri s))

/-- R451, R462: coprocessor 0 is usable in debug mode, in kernel mode, and with CU0 = 1. Elsewhere every COP0 instruction,
every reserved COP0 word and CACHE raise Coprocessor Unusable 0, which changes nothing but what the exception entry changes.
That ERET, DERET and WAIT raise it in a delay slot too is log entry 29. -/
def Obligations.PrivilegedInUserMode : Prop :=
  ∀ (s : State) (rt rd base : Reg) (sel : BitVec 3) (code : BitVec 19) (op : BitVec 5) (off : Imm16),
    (s.cp0Usable = true ↔ s.dm = true ∨ s.um = false ∨ s.exl = true ∨ s.erl = true ∨ s.cu0 = true) ∧
    (s.cp0Usable = false →
      (∀ i ∈ [Instr.mfc0 rt rd sel, .mtc0 rt rd sel, .rdpgpr rd rt, .wrpgpr rd rt, .di rt, .ei rt, .tlbr, .tlbwi, .tlbwr,
              .tlbp, .eret, .deret, .wait code, .cache op base off], exec i s = .next (takeException (.cpu 0) s)) ∧
      (∀ w, decode w = none → fOp w = 0x10#6 → runWord w s = .next (takeException (.cpu 0) s)) ∧
      takeException (.cpu 0) s = { s with cp0 := (takeException (.cpu 0) s).cp0, pc := (takeException (.cpu 0) s).pc,
                                          pending := none, inDelaySlot := false })

/-! ### Coprocessor 0 and the TLB (spec/10_state.md, spec/45_trap_system.md, spec/20_memory.md) -/

/-- R430: MFC0 of every register number with coprocessor 0 usable completes: of an implemented register other than Random and,
outside debug mode, than the debug registers, `rt` receives its value; of Random a TLB index from Wired on; else, for an
absent register and for Debug, DEPC and DESAVE outside debug mode (U9), a free value. The free values are those of log entry
8. -/
def Obligations.MoveFromCp0 : Prop :=
  ∀ (s : State) (rt rd : Reg) (sel : BitVec 3), s.cp0Usable = true →
    (∀ q, cp0Reg rd sel = some q → q ≠ .random → (q.debugOnly = false ∨ s.dm = true) →
      Next (exec (.mfc0 rt rd sel) s) (Wrote rt (cp0Value s q) s)) ∧
    (cp0Reg rd sel = some .random → ∃ v : Word, v.toNat ≤ s.params.lastIndex ∧ min s.cp0.wired.toNat s.params.lastIndex ≤ v.toNat ∧
      Next (exec (.mfc0 rt rd sel) s)
        (Wrote rt v { s with cp0 := { s.cp0 with random := v }, free := s.free + 1 })) ∧
    (cp0Reg rd sel = none ∨ (∃ q, cp0Reg rd sel = some q ∧ q.debugOnly = true ∧ s.dm = false) →
      Next (exec (.mfc0 rt rd sel) s) (Wrote rt (Config.freeWord s.free) { s with free := s.free + 1 }))

/-- R431, R432: MTC0 with coprocessor 0 usable completes. A register with a plain mask takes the masked value, every other CP0
register and all other state keep theirs. A write of an absent register is ignored. Whether the mask of Debug holds MCheckP, as
R57 says and R432 does not, is left open (log entry 14); outside debug mode the write of Debug is storage (U9). -/
def Obligations.MoveToCp0 : Prop :=
  ∀ (s : State) (rt rd : Reg) (sel : BitVec 3), s.cp0Usable = true →
    (∀ q m, cp0Reg rd sel = some q → plainMask q = some m → Next (exec (.mtc0 rt rd sel) s) fun t =>
      Advanced s t ∧ cp0Value t q = (cp0Value s q &&& ~~~m) ||| (s.reg rt &&& m) ∧
      (∀ p, p ≠ q → cp0Value t p = cp0Value s p) ∧
      t = { s with cp0 := t.cp0, pc := t.pc, pending := t.pending, inDelaySlot := t.inDelaySlot }) ∧
    (cp0Reg rd sel = none → Next (exec (.mtc0 rt rd sel) s) (OnlyAdvanced s))

/-- R432: MTC0 to Status and Cause: the plain mask, and TS, NMI and WP stay exactly where they were 1 and are written 1;
WatchHi: the reporting bits are cleared by writing 1; Index and Wired: the bits of a TLB index, and Wired makes Random the
last TLB index. Nothing else changes. -/
def Obligations.MoveToCp0Special : Prop :=
  ∀ (s : State) (rt : Reg), s.cp0Usable = true →
    let v := s.reg rt
    let low : Word := if s.params.tlb32 then 31 else 15
    let only := fun (c : Cp0) (t : State) => Advanced s t ∧
      t = { s with cp0 := c, pc := t.pc, pending := t.pending, inDelaySlot := t.inDelaySlot }
    Next (exec (.mtc0 rt 12 0) s) (only { s.cp0 with
      status := (s.cp0.status &&& ~~~0x1A68FF17#32) ||| (v &&& 0x1A40FF17) ||| (s.cp0.status &&& v &&& 0x00280000) }) ∧
    Next (exec (.mtc0 rt 13 0) s) (only { s.cp0 with
      cause := (s.cp0.cause &&& ~~~0x00C00300#32) ||| (v &&& 0x00800300) ||| (s.cp0.cause &&& v &&& 0x00400000) }) ∧
    Next (exec (.mtc0 rt 19 0) s) (only { s.cp0 with
      watchHi := (s.cp0.watchHi &&& ~~~0x40FF0FFF#32) ||| (v &&& 0x40FF0FF8) ||| (s.cp0.watchHi &&& ~~~v &&& 7) }) ∧
    Next (exec (.mtc0 rt 0 0) s) (only { s.cp0 with index := (s.cp0.index &&& ~~~low) ||| (v &&& low) }) ∧
    Next (exec (.mtc0 rt 6 0) s) (only { s.cp0 with
      wired := (s.cp0.wired &&& ~~~low) ||| (v &&& low), random := BitVec.ofNat 32 s.params.lastIndex })

/-- R433, R434: DI and EI, with their encodings, with coprocessor 0 usable complete: `rt` holds the old Status, IE becomes 0
or 1, and nothing else changes; otherwise they raise Coprocessor Unusable 0. -/
def Obligations.InterruptEnable : Prop :=
  ∀ (s : State) (rt : Reg),
    (encode (.di rt) = 0x41606000 ||| (rt.setWidth 32 <<< 16) ∧ encode (.ei rt) = 0x41606020 ||| (rt.setWidth 32 <<< 16)) ∧
    (s.cp0Usable = true →
      Next (exec (.di rt) s) (Wrote rt s.cp0.status { s with cp0 := { s.cp0 with status := s.cp0.status &&& ~~~1#32 } }) ∧
      Next (exec (.ei rt) s) (Wrote rt s.cp0.status { s with cp0 := { s.cp0 with status := s.cp0.status ||| 1 } })) ∧
    (s.cp0Usable = false → ∀ i ∈ [Instr.di rt, .ei rt], exec i s = .next (takeException (.cpu 0) s))

/-- R441, R442, D19: RDPGPR and WRPGPR, with their encodings, with coprocessor 0 usable copy a register of the one register
set; otherwise they raise Coprocessor Unusable 0. -/
def Obligations.ShadowMoves : Prop :=
  ∀ (s : State) (rd rt : Reg),
    (encode (.rdpgpr rd rt) = rType 0x10 0x0A rt rd 0 0 ∧ encode (.wrpgpr rd rt) = rType 0x10 0x0E rt rd 0 0) ∧
    (s.cp0Usable = true →
      Next (exec (.rdpgpr rd rt) s) (Wrote rd (s.reg rt) s) ∧ Next (exec (.wrpgpr rd rt) s) (Wrote rd (s.reg rt) s)) ∧
    (s.cp0Usable = false → ∀ i ∈ [Instr.rdpgpr rd rt, .wrpgpr rd rt], exec i s = .next (takeException (.cpu 0) s))

/-- R445: TLBP, with its encoding, with coprocessor 0 usable completes: Index holds the last entry that matches EntryHi; when
none does, bit 31 is set and the others keep their values. Nothing else changes. Otherwise it raises Coprocessor Unusable 0.
-/
def Obligations.TlbProbe : Prop :=
  encode .tlbp = 0x42000008 ∧
  (∀ s : State, s.cp0Usable = false → exec .tlbp s = .next (takeException (.cpu 0) s)) ∧
  ∀ (s : State), s.cp0Usable = true →
    let hit := fun i => i < Params.tlbSize s.params ∧
      (∀ b, b < 19 → ¬(b < 12 ∧ (s.tlbAt i).mask.getLsbD b = true) →
        (s.tlbAt i).vpn2.getLsbD b = bit s.cp0.entryHi (13 + b)) ∧
      ((s.tlbAt i).g = true ∨ (s.tlbAt i).asid = s.asid)
    Next (exec .tlbp s) fun t =>
      (∀ i, hit i → (∀ j, hit j → j ≤ i) → t.cp0.index.toNat = i) ∧
      ((∀ i, ¬hit i) → t.cp0.index = s.cp0.index ||| 0x80000000) ∧ Advanced s t ∧
      t = { s with cp0 := { s.cp0 with index := t.cp0.index }, pc := t.pc, pending := t.pending,
                   inDelaySlot := t.inDelaySlot }

/-- R446: TLBR, with its encoding, with coprocessor 0 usable completes: the entry that Index names goes to PageMask, EntryHi
and the EntryLo registers, and nothing else changes. Otherwise it raises Coprocessor Unusable 0. -/
def Obligations.TlbRead : Prop :=
  encode .tlbr = 0x42000001 ∧
  (∀ s : State, s.cp0Usable = false → exec .tlbr s = .next (takeException (.cpu 0) s)) ∧
  ∀ (s : State), s.cp0Usable = true →
    let e := s.tlbAt (s.cp0.index.toNat % Params.tlbSize s.params)
    Next (exec .tlbr s) fun t =>
      t.cp0.pageMask = 0#7 ++ e.mask ++ 0#13 ∧ t.cp0.entryHi = e.vpn2 ++ 0#5 ++ e.asid ∧
      (t.cp0.entryLo0.extractLsb' 6 20 = e.pfn0 ∧ t.cp0.entryLo0.extractLsb' 3 3 = e.c0 ∧ bit t.cp0.entryLo0 2 = e.d0 ∧
        bit t.cp0.entryLo0 1 = e.v0 ∧ bit t.cp0.entryLo0 0 = e.g ∧ t.cp0.entryLo0.extractLsb' 26 6 = 0) ∧
      (t.cp0.entryLo1.extractLsb' 6 20 = e.pfn1 ∧ t.cp0.entryLo1.extractLsb' 3 3 = e.c1 ∧ bit t.cp0.entryLo1 2 = e.d1 ∧
        bit t.cp0.entryLo1 1 = e.v1 ∧ bit t.cp0.entryLo1 0 = e.g ∧ t.cp0.entryLo1.extractLsb' 26 6 = 0) ∧
      Advanced s t ∧
      t = { s with cp0 := { s.cp0 with pageMask := t.cp0.pageMask, entryHi := t.cp0.entryHi, entryLo0 := t.cp0.entryLo0,
                                       entryLo1 := t.cp0.entryLo1 },
                   pc := t.pc, pending := t.pending, inDelaySlot := t.inDelaySlot }


/-- R447, R33, U6: the entry a TLB write makes has the fields of EntryHi, PageMask and the EntryLo registers, and G only when
both EntryLo registers have it; two entries overlap when their VPN2 agree outside both masks, and one is global or the ASIDs
agree. TLBWI with coprocessor 0 usable: with a legal PageMask and no overlapping entry elsewhere it completes and writes the
entry Index names; with one it sets Status.TS (not in debug mode, R627), raises MCheck and leaves the TLB; another PageMask is
refused. -/
def Obligations.TlbWriteIndexed : Prop :=
  (∀ c : Cp0,
    let e := newEntry c
    e.vpn2.toNat = field c.entryHi 13 19 ∧ e.asid.toNat = field c.entryHi 0 8 ∧ e.mask.toNat = field c.pageMask 13 12 ∧
    (e.g = true ↔ bit c.entryLo0 0 = true ∧ bit c.entryLo1 0 = true) ∧
    e.pfn0.toNat = field c.entryLo0 6 20 ∧ e.c0.toNat = field c.entryLo0 3 3 ∧ e.d0 = bit c.entryLo0 2 ∧
    e.v0 = bit c.entryLo0 1 ∧
    e.pfn1.toNat = field c.entryLo1 6 20 ∧ e.c1.toNat = field c.entryLo1 3 3 ∧ e.d1 = bit c.entryLo1 2 ∧
    e.v1 = bit c.entryLo1 1) ∧
  (∀ a b : TlbEntry, a.overlaps b = true ↔
    (∀ i, i < 19 → ¬(i < 12 ∧ (a.mask.getLsbD i = true ∨ b.mask.getLsbD i = true)) → a.vpn2.getLsbD i = b.vpn2.getLsbD i) ∧
      (a.g = true ∨ b.g = true ∨ a.asid = b.asid)) ∧
  ∀ (s : State), s.cp0Usable = true →
    let i := s.cp0.index.toNat % Params.tlbSize s.params
    let clash := ∃ j, j < Params.tlbSize s.params ∧ j ≠ i ∧ (newEntry s.cp0).overlaps (s.tlbAt j) = true
    let legal := (s.cp0.pageMask.extractLsb' 13 12).toNat ∈ [0x000, 0x003, 0x00F, 0x03F, 0x0FF, 0x3FF, 0xFFF]
    (legal → ¬clash → Next (exec .tlbwi s) (EntryWritten i s)) ∧
    (legal → clash →
      exec .tlbwi s =
        .next (takeException .mcheck
          { s with cp0 := { s.cp0 with status := if s.dm then s.cp0.status else s.cp0.status ||| 0x00200000 } })) ∧
    (¬legal → exec .tlbwi s = .refused .reservedPageMask)

/-- R448, R447, R30, U6: TLBWR with coprocessor 0 usable draws an index r with Wired ≤ r ≤ N - 1, which Random then shows.
With a legal PageMask and no overlapping entry elsewhere it completes and writes entry r; with one it sets Status.TS (not in
debug mode, R627), raises MCheck and leaves the TLB; another PageMask is refused. Which index is drawn is a free value (log
entry 8). -/
def Obligations.TlbWriteRandom : Prop :=
  ∀ (s : State), s.cp0Usable = true →
    let legal := (s.cp0.pageMask.extractLsb' 13 12).toNat ∈ [0x000, 0x003, 0x00F, 0x03F, 0x0FF, 0x3FF, 0xFFF]
    ∃ r, min s.cp0.wired.toNat s.params.lastIndex ≤ r ∧ r ≤ s.params.lastIndex ∧
      let drawn := { s with cp0 := { s.cp0 with random := BitVec.ofNat 32 r }, free := s.free + 1 }
      let clash := ∃ j, j < Params.tlbSize s.params ∧ j ≠ r ∧ (newEntry s.cp0).overlaps (s.tlbAt j) = true
      (legal → ¬clash → Next (exec .tlbwr s) (EntryWritten r drawn)) ∧
      (legal → clash →
        exec .tlbwr s =
          .next (takeException .mcheck
            { drawn with cp0 := { drawn.cp0 with
                status := if s.dm then s.cp0.status else s.cp0.status ||| 0x00200000 } })) ∧
      (¬legal → exec .tlbwr s = .refused .reservedPageMask)

/-- R105, R106, R114: translation of the fixed segments: a user-mode access to an address with bit 31 set raises AdEL or AdES;
kseg0 and kseg1 drop the three top bits; kuseg with ERL = 1 is untranslated. -/
def Obligations.FixedSegments : Prop :=
  ∀ (s : State) (va : Word) (k : Kind),
    (s.userMode = true → bit va 31 = true →
      translate va k s = .exc (if k = .store then .ades va else .adel va) s) ∧
    (s.userMode = false → 0x80000000 ≤ va.toNat → va.toNat < 0xA0000000 →
      translate va k s = .ok (BitVec.ofNat 32 (va.toNat - 0x80000000), s.cp0.k0) s) ∧
    (s.userMode = false → 0xA0000000 ≤ va.toNat → va.toNat < 0xC0000000 →
      translate va k s = .ok (BitVec.ofNat 32 (va.toNat - 0xA0000000), 2) s) ∧
    (va.toNat < 0x80000000 → s.erl = true → translate va k s = .ok (va, 2) s)

/-- R110, with the exceptions of R111 to R113: translation in a mapped segment (kuseg with ERL = 0, kseg2 and kseg3 outside
user mode). Without a matching entry: refill. With entry i the last that matches: invalid when the page has V = 0, Mod for a
store when D = 0, else the frame with the page offset and the page's cache attribute. In every segment a load or store outside
dseg, aligned where its rule asks for it, whose translation answers an exception takes that exception and does nothing else
(R106, R350), SC with LLbit = 0 too (R381). -/
def Obligations.TlbTranslation : Prop :=
  (∀ (s : State) (rt base : Reg) (off : Imm16) (e : Exc),
    let ea := effAddr base off s
    let takes := fun (i : Instr) => exec i s = .next (takeException e s)
    dataDseg ea s = false →
    (translate ea .load s = .exc e s →
      (∀ i ∈ [Instr.lb rt base off, .lbu rt base off, .lwl rt base off, .lwr rt base off], takes i) ∧
      (ea.toNat % 2 = 0 → takes (.lh rt base off) ∧ takes (.lhu rt base off)) ∧
      (ea.toNat % 4 = 0 → takes (.lw rt base off) ∧ takes (.ll rt base off))) ∧
    (translate ea .store s = .exc e s →
      (∀ i ∈ [Instr.sb rt base off, .swl rt base off, .swr rt base off], takes i) ∧
      (ea.toNat % 2 = 0 → takes (.sh rt base off)) ∧
      (ea.toNat % 4 = 0 → takes (.sw rt base off) ∧ takes (.sc rt base off)))) ∧
  (∀ p ∈ [(0x000, 12), (0x003, 14), (0x00F, 16), (0x03F, 18), (0x0FF, 20), (0x3FF, 22), (0xFFF, 24)],
    evenOddBit (BitVec.ofNat 12 p.1) = p.2) ∧
  ∀ (s : State) (va : Word) (k : Kind),
    (va.toNat < 0x80000000 ∧ s.erl = false ∨ 0xC0000000 ≤ va.toNat ∧ s.userMode = false) →
    let hit := fun i => i < Params.tlbSize s.params ∧
      (∀ b, 13 ≤ b → b < 32 → ¬(b < 25 ∧ (s.tlbAt i).mask.getLsbD (b - 13) = true) →
        (s.tlbAt i).vpn2.getLsbD (b - 13) = bit va b) ∧
      ((s.tlbAt i).g = true ∨ (s.tlbAt i).asid = s.asid)
    ((∀ i, ¬hit i) → translate va k s = .exc (if k = .store then .tlbs va true else .tlbl va true) s) ∧
    (∀ i, hit i → (∀ j, hit j → j ≤ i) →
      let p := (s.tlbAt i).page (bit va (evenOddBit (s.tlbAt i).mask))
      let size := 2 ^ evenOddBit (s.tlbAt i).mask
      (p.v = false → translate va k s = .exc (if k = .store then .tlbs va false else .tlbl va false) s) ∧
      (p.v = true → k = .store → p.d = false → translate va k s = .exc (.mod va) s) ∧
      (p.v = true → (k = .store → p.d = true) →
        ∃ pa : Word, translate va k s = .ok (pa, p.c) s ∧ pa.toNat = p.pfn.toNat * 4096 / size * size + va.toNat % size))

/-! ### Steps, waiting, interrupts (spec/00_scope.md, spec/60_exceptions.md) -/

/-- R13, R122: when the core is undisturbed, no interrupt is due, and the fetch answers the word `w` in state `s1`, and `w`
decodes to the instruction `i`, the step is `exec i s1`; after it the model's record of a step (`stepped`, a word held for the
probe) is updated and the core's stores leave the write buffer. With no word held, a misaligned pc makes the fetch, and the step,
take AdEL with the pc; an aligned pc outside dseg whose translation is uncached, without watch or breakpoint, and answered by
memory cells makes the fetch answer the word of these cells in the byte order of the machine and change nothing, when the write
buffer is empty and no agent moves before the transfer. The agenda is the model's way to interleave the agents (log entry 9), the
write buffer that of log entry 11, the held word that of log entry 16. -/
def Obligations.StepRunsDecoded : Prop :=
  (∀ (s s1 : State) (w : Word) (i : Instr), Undisturbed s → s.waiting = false → interruptDue s = false →
    fetch s = .ok w s1 → decode w = some i →
    step s = settled true (onNext (fun t => completed s (t.hold w)) (exec i s1))) ∧
  (∀ (s : State), s.ejtag.held = none → s.pc.toNat % 4 ≠ 0 →
    fetch s = .exc (.adel s.pc) s ∧
    (Undisturbed s → s.waiting = false → interruptDue s = false →
      step s = settled true (.next (completed s (takeException (.adel s.pc) s))))) ∧
  (∀ (s : State) (pa : Word) (c : BitVec 3) (key : Nat) (kind : RegionKind), s.ejtag.held = none → s.pc.toNat % 4 = 0 →
    inDseg s.pc s = false → translate s.pc .fetch s = .ok (pa, c) s → uncached c = true → (∀ i, ibMatch i s = false) →
    watchMatch s.pc .fetch s = false → BackedBy s pa.toNat key kind → s.wbuf = [] → s.between = [] →
    ∃ w, fetch s = .ok w s ∧ w.toNat = cellsNat s key 4)

/-- R425: WAIT with coprocessor 0 usable, outside a delay slot, completes (LCR.LPM not 3): the core waits at the instruction
after it. While it waits without DOZE, with an empty write buffer, and no request that Status.IM lets through, NMI, debug
request or single step is there, a step of the core leaves it waiting and executes nothing. With such a request, one that debug
mode holds off included (R72), the core with its clock and no debug exception to take steps as if it did not wait. What ends a
wait under LCR.LPM and DOZE is log entry 12. -/
def Obligations.Waiting : Prop :=
  ∀ (s : State) (code : BitVec 19),
    (s.cp0Usable = true → s.inDelaySlot = false → field (s.ioGet Adr.LCR) 0 2 ≠ 3 →
      Next (exec (.wait code) s) fun t => t.waiting = true ∧ Advanced s t ∧ t.gpr = s.gpr ∧ t.cp0 = s.cp0 ∧ t.tlb = s.tlb ∧
        t.hi = s.hi ∧ t.lo = s.lo ∧ t.llBit = s.llBit ∧ SameMemory s t) ∧
    (s.waiting = true → s.agenda = [] → s.resetReq = none → bit (s.ioGet Adr.LCR) 2 = false → wakeDue s = false →
      singleStepDue s = false → s.wbuf = [] →
      Next (step s) fun t => t.waiting = true ∧ t.pc = s.pc ∧ t.gpr = s.gpr ∧ t.cp0 = s.cp0 ∧ SameMemory s t) ∧
    (s.waiting = true → s.agenda = [] → s.resetReq = none → bit (s.ioGet Adr.LCR) 2 = false → s.powerMode = .normal →
      (enabledRequests s ≠ 0 ∨ s.nmiReq = true ∨ s.dintReq = true ∨ bit s.ejtag.ecr 12 = true) →
      singleStepDue s = false → debugInterruptDue s = false → step s = step { s with waiting := false })

/-- R480, R485, R470, R475, R500: an undisturbed core, not in debug mode, with an empty write buffer, IE = 1, EXL = ERL = 0,
DCR.IntE = 1 and a request that Status.IM lets through, takes the interrupt in this step: Cause.ExcCode is 0, EXL is set, EPC
is the instruction not executed; the offset is 0x180 with Cause.IV = 0, else 0x200, and with BEV = 0 and VS not 0 in steps of
32 VS bytes above that for the highest request (a legal VS, U7). With a requested NMI, outside debug mode, the core takes that
first: ErrorEPC is the instruction not executed, BEV, NMI and ERL are set, TS and SR cleared, the pc is 0xBFC00000, and
nothing else of coprocessor 0 changes. That DCR.IntE gates interrupts is log entry 13; that the NMI request is latched and its
entry clears it is log entry 39. -/
def Obligations.InterruptTaken : Prop :=
  (∀ (s : State), Undisturbed s →
    let vs := field s.cp0.intCtl 5 5
    let iv := bit s.cp0.cause 23
    let requests := causeRead s &&& s.cp0.status
    s.ie = true → s.exl = false → s.erl = false → s.dm = false → bit s.drseg.dcr 4 = true →
    requests &&& 0xFF00 ≠ 0 → (iv = true → s.bev = false → vs ∈ [0, 1, 2, 4, 8, 16]) → s.wbuf = [] →
    Next (step s) fun t =>
      t.exl = true ∧ field t.cp0.cause 2 5 = 0 ∧ t.cp0.epc = (if s.inDelaySlot then s.pc - 4 else s.pc) ∧
      (∃ off : Nat, t.pc = (if s.bev then 0xBFC00200 else 0x80000000 ||| (s.cp0.ebase &&& 0x3FFFF000)) + BitVec.ofNat 32 off ∧
        (iv = false → off = 0x180) ∧ (iv = true → s.bev = true ∨ vs = 0 → off = 0x200) ∧
        (iv = true → s.bev = false → vs ≠ 0 → ∀ n, n < 8 → bit requests (8 + n) = true →
          (∀ m, n < m → m < 8 → bit requests (8 + m) = false) → off = 0x200 + n * (32 * vs))) ∧
      t.waiting = false ∧ t.gpr = s.gpr ∧ t.tlb = s.tlb ∧ SameMemory s t) ∧
  (∀ (s : State), s.agenda = [] → s.resetReq = none → s.powerMode = .normal → bit (s.ioGet Adr.LCR) 2 = false →
    s.nmiReq = true → s.dm = false → s.wbuf = [] →
    Next (step s) fun t =>
      t.cp0.errorEpc = (if s.inDelaySlot then s.pc - 4 else s.pc) ∧
      (∀ i, i < 32 → bit t.cp0.status i = if i ∈ [22, 19, 2] then true else if i ∈ [21, 20] then false else bit s.cp0.status i) ∧
      t = { s with cp0 := { s.cp0 with errorEpc := t.cp0.errorEpc, status := t.cp0.status }, pc := 0xBFC00000, pending := none,
                   inDelaySlot := false, waiting := false, nmiReq := false, stepped := t.stepped })

/-! ### Decoding and encoding (spec/30_encoding.md) -/

/-- R171, R177: the decoder reads every well-formed instruction back from its encoding. -/
def Obligations.DecodeEncode : Prop := ∀ i : Instr, i.wellFormed = true → decode (encode i) = some i

/-- R171, R177: every word the decoder accepts is the encoding of the instruction it answers: no bit of a word is dropped. -/
def Obligations.EncodeDecode : Prop := ∀ (w : Word) (i : Instr), decode w = some i → encode i = w

/-- R173, R174, R451: a word that is no instruction raises RI, or CpU 0 where it is a COP0 word and coprocessor 0 is not
usable. -/
def Obligations.ReservedWords : Prop :=
  ∀ (s : State) (w : Word), decode w = none →
    runWord w s =
      .next (takeException (if fOp w = 0x10#6 ∧ s.cp0Usable = false then .cpu 0 else .ri) s)

/-- Words written out in the rules decode to the instructions the rules name, and a word of no row to none. -/
def Obligations.DecodedWords : Prop :=
  decode 0x00221820 = some (.add 3 1 2) ∧ decode 0x2422FFFF = some (.addiu 2 1 0xFFFF) ∧
  decode 0x00211202 = some (.rotr 2 1 8) ∧ decode 0x7C225A04 = some (.ins 2 1 11 8) ∧
  decode 0x70221802 = some (.mul 3 1 2) ∧ decode 0x10220003 = some (.beq 1 2 3) ∧
  decode 0x0320F809 = some (.jalr 31 25 0) ∧ decode 0x8FA2FFFC = some (.lw 2 29 0xFFFC) ∧
  decode 0xBC950000 = some (.cache 0x15 4 0) ∧ decode 0x004001F4 = some (.teq 2 0 7) ∧
  decode 0x40028001 = some (.mfc0 2 16 1) ∧ decode 0x42000018 = some .eret ∧ decode 0x00000005 = none ∧
  decode 0x68000000 = none

/-! ### Invariants, reset, isolation -/

/-- R101: memory, device registers and cache lines stay in canonical form, whatever step is taken. The canonical form is the
model's (log entry 4). -/
def Obligations.StorageKept : Prop := ∀ s t : State, StorageOk s → step s = .next t → StorageOk t

/-- R21, R68: register 0 stays 0 and the write buffer holds at most 16 words, whatever step is taken. -/
def Obligations.CoreKept : Prop := ∀ s t : State, CoreOk s → step s = .next t → CoreOk t

/-- R28, R29 to R63: the reserved bits of the CP0 registers stay 0, Wired and Random stay TLB indexes, whatever step is taken.
The mask of Debug holds the bits that R57 lets be 1 in storage; CountDM and EJTAGver are added when Debug is read; which of
them MTC0 writes is log entry 14. -/
def Obligations.Cp0Kept : Prop := ∀ s t : State, Cp0Ok s → step s = .next t → Cp0Ok t

/-- R447, R492: no step makes two TLB entries match one address in one address space. That a pending reset leaves no overlap
rests on the model's reset TLB (log entries 2 and 19). -/
def Obligations.TlbKept : Prop := ∀ s t : State, TlbOk s → step s = .next t → TlbOk t

/-- The invariants hold after reset. That no two TLB entries overlap at reset rests on the model's reset TLB (log entry 2). -/
def Obligations.ResetInvariants : Prop := StorageOk State.reset ∧ CoreOk State.reset ∧ Cp0Ok State.reset ∧ TlbOk State.reset

/-- R821, R822, R824, R681: what the state after reset holds, and what a reset of each cause leaves whatever the state before
it: memory but for SDRAM at a power-on reset keeps its contents. Random shows the TLB of log entry 6; that memory keeps its
contents, and loses SDRAM at a power-on reset, is log entry 4. -/
def Obligations.ResetValues : Prop :=
  (let s := State.reset
   s.pc = 0xBFC00000 ∧ s.pending = none ∧ s.inDelaySlot = false ∧ s.llBit = false ∧ s.waiting = false ∧ s.stepped = false ∧
   s.bev = true ∧ s.erl = true ∧ s.cp0.status &&& 0xE8380000 = 0 ∧ cp0Value s .intCtl = 0 ∧ cp0Value s .ebase = 0 ∧
   cp0Value s .prid = 0x00028011 ∧ cp0Value s .config = 0x80000482 ∧ cp0Value s .config1 = 0xBE63318A ∧
   cp0Value s .config2 = 0x80000000 ∧
   cp0Value s .config3 = 0x00000020 ∧ cp0Value s .config7 = 0 ∧ cp0Value s .wired = 0 ∧ s.cp0.random = 31 ∧
   s.cp0.watchLo &&& 7 = 0 ∧ cp0Value s .errCtl = 0 ∧ s.dm = false ∧ s.powerMode = .normal) ∧
  ∀ (s : State) (c : ResetCause),
    let t := runtimeReset c s
    t.pc = 0xBFC00000 ∧ t.pending = none ∧ t.inDelaySlot = false ∧ t.llBit = false ∧ t.waiting = false ∧ t.stepped = false ∧
    t.bev = true ∧ t.erl = true ∧ t.cp0.status &&& 0xE8380000 = 0 ∧ t.cp0.debug &&& 0x50900100 = 0 ∧
    cp0Value t .intCtl = 0 ∧ cp0Value t .ebase = 0 ∧ t.cp0.k0 = 2 ∧ cp0Value t .config7 = 0 ∧
    cp0Value t .wired = 0 ∧ t.cp0.random.toNat = s.params.lastIndex ∧ t.cp0.watchLo &&& 7 = 0 ∧ cp0Value t .errCtl = 0 ∧
    t.dm = false ∧ (c ≠ .powerOn → SameMemory s t) ∧
    (∀ k, inSdram s.params k = false → t.memByte k = s.memByte k)

/-- R462, R463: an instruction executed in user mode with CU0 = 0 changes no TLB entry, and none of the CP0 registers that
steer translation and vectors, unless an exception is entered; user mode is left only by entering an exception. -/
def Obligations.UserModeIsolated : Prop :=
  ∀ (s t : State) (i : Instr), s.userMode = true → s.cu0 = false → exec i s = .next t →
    t.tlb = s.tlb ∧ t.cp0.ebase = s.cp0.ebase ∧ t.cp0.intCtl = s.cp0.intCtl ∧ bit t.cp0.cause 23 = bit s.cp0.cause 23 ∧
    t.cp0.k0 = s.cp0.k0 ∧ t.cp0.wired = s.cp0.wired ∧
    t.cp0.pageMask = s.cp0.pageMask ∧ t.cp0.entryLo0 = s.cp0.entryLo0 ∧ t.cp0.entryLo1 = s.cp0.entryLo1 ∧ t.asid = s.asid ∧
    (t.cp0.status = s.cp0.status ∨ t.cp0.status = s.cp0.status ||| 2) ∧ (t.userMode = true ∨ t.exl = true ∨ t.dm = true)

/-- R145, R512: no event other than the core's own turn changes a general register, HI, LO, the pc, a CP0 register, the TLB, a
cache line or LLbit. Events are the model's way to interleave the agents (log entry 9). -/
def Obligations.AgentsLeaveCore : Prop :=
  ∀ (s t : State) (e : Event) (rest : List Event), s.agenda = e :: rest → e ≠ .core → step s = .next t →
    t.gpr = s.gpr ∧ t.hi = s.hi ∧ t.lo = s.lo ∧ t.pc = s.pc ∧ t.pending = s.pending ∧ t.cp0 = s.cp0 ∧ t.tlb = s.tlb ∧
    t.icache = s.icache ∧ t.dcache = s.dcache ∧ t.llBit = s.llBit ∧ t.params = s.params

/-! ### Devices -/

/-- R551, R482: a write of ICMSR sets and a write of ICMCR clears the written bits of ICMR; ICPR is ICSR and not ICMR; the
core's request line, IP[2], is whether ICPR is not 0. -/
def Obligations.InterruptMask : Prop :=
  ∀ (s : State) (v : Word), Sparse.wf (ioReset s.params) s.io = true →
    (writeIntc Adr.ICMSR 0xFFFFFFFF v s).ioGet Adr.ICMR = s.ioGet Adr.ICMR ||| v ∧
    (writeIntc Adr.ICMCR 0xFFFFFFFF v s).ioGet Adr.ICMR = s.ioGet Adr.ICMR &&& ~~~v ∧
    (readIntc Adr.ICPR s).1 = (readIntc Adr.ICSR s).1 &&& ~~~s.ioGet Adr.ICMR ∧
    bit (cp0Value s .cause) 10 = (bit s.cp0.cause 10 || decide ((readIntc Adr.ICPR s).1 ≠ 0))

/-- R560, R563 to R565: one tick of an enabled OST channel with a running clock counts down, or at 0 reloads from OTDR and sets
UF; no other register changes. A write of OTCNT or OTDR stores the value; OTCSR keeps its bits, but a write of OTCNT with an
asynchronous clock (CKC 4 and 5) sets SF. A channel requests its interrupt while UF and UIE are 1, and the one request line is up
while a channel does. When SF is set, and that a reserved CKC sets none, is log entry 21. -/
def Obligations.TimerTick : Prop :=
  ∀ (s : State) (n : BitVec 2) (v : Word), Sparse.wf (ioReset s.params) s.io = true → n.toNat < 3 →
    let t := ostTick n s
    (ostEnabled s n = true → ostClockRuns s n = true →
      (∀ a, a ≠ otcnt n → a ≠ otcsr n → t.ioGet a = s.ioGet a) ∧
      (s.ioGet (otcnt n) ≠ 0 → t.ioGet (otcnt n) = s.ioGet (otcnt n) - 1 ∧ t.ioGet (otcsr n) = s.ioGet (otcsr n)) ∧
      (s.ioGet (otcnt n) = 0 →
        t.ioGet (otcnt n) = s.ioGet (otdr n) ∧ t.ioGet (otcsr n) = s.ioGet (otcsr n) ||| 0x40)) ∧
    (ostEnabled s n = false ∨ ostClockRuns s n = false → t = s) ∧
    (reservedCkc s = false → ∀ a ∈ [otcnt n, otdr n], ∃ u, writeOst a 0xFFFFFFFF v s = .ok () u ∧ u.ioGet a = v ∧
      (∀ b, b ≠ a → b ≠ otcsr n → u.ioGet b = s.ioGet b) ∧
      u.ioGet (otcsr n) = s.ioGet (otcsr n) ||| (if a = otcnt n ∧ field (s.ioGet (otcsr n)) 0 3 ∈ [4, 5] then 0x80 else 0)) ∧
    (ostChannelIrq s n = true ↔ bit (s.ioGet (otcsr n)) 6 = true ∧ bit (s.ioGet (otcsr n)) 5 = true) ∧
    (irqOst s = true ↔ ∃ m : BitVec 2, m.toNat < 3 ∧ ostChannelIrq s m = true)
end

