-- ==== Sys2Proof/Laws/State.lean ====
section
/-! SUPPORT. One lemma per field per update of the state. -/

namespace Sys2Proof.Machine

variable (s : State)

/-! ### retire -/

@[simp] theorem State.retire_params : s.retire.params = s.params := rfl
@[simp] theorem State.retire_gpr : s.retire.gpr = s.gpr := rfl
@[simp] theorem State.retire_pc : s.retire.pc = s.pending.getD (s.pc + 4) := rfl
@[simp] theorem State.retire_pending : s.retire.pending = none := rfl
@[simp] theorem State.retire_inDelaySlot : s.retire.inDelaySlot = false := rfl
@[simp] theorem State.retire_hi : s.retire.hi = s.hi := rfl
@[simp] theorem State.retire_lo : s.retire.lo = s.lo := rfl
@[simp] theorem State.retire_llBit : s.retire.llBit = s.llBit := rfl
@[simp] theorem State.retire_cp0 : s.retire.cp0 = s.cp0 := rfl
@[simp] theorem State.retire_tlb : s.retire.tlb = s.tlb := rfl
@[simp] theorem State.retire_icache : s.retire.icache = s.icache := rfl
@[simp] theorem State.retire_dcache : s.retire.dcache = s.dcache := rfl
@[simp] theorem State.retire_drseg : s.retire.drseg = s.drseg := rfl
@[simp] theorem State.retire_ejtag : s.retire.ejtag = s.ejtag := rfl
@[simp] theorem State.retire_stepped : s.retire.stepped = s.stepped := rfl
@[simp] theorem State.retire_waiting : s.retire.waiting = s.waiting := rfl
@[simp] theorem State.retire_powerMode : s.retire.powerMode = s.powerMode := rfl
@[simp] theorem State.retire_nmiReq : s.retire.nmiReq = s.nmiReq := rfl
@[simp] theorem State.retire_dintReq : s.retire.dintReq = s.dintReq := rfl
@[simp] theorem State.retire_resetReq : s.retire.resetReq = s.resetReq := rfl
@[simp] theorem State.retire_wbuf : s.retire.wbuf = s.wbuf := rfl
@[simp] theorem State.retire_mem : s.retire.mem = s.mem := rfl
@[simp] theorem State.retire_io : s.retire.io = s.io := rfl
@[simp] theorem State.retire_dev : s.retire.dev = s.dev := rfl
@[simp] theorem State.retire_console : s.retire.console = s.console := rfl
@[simp] theorem State.retire_agenda : s.retire.agenda = s.agenda := rfl
@[simp] theorem State.retire_between : s.retire.between = s.between := rfl
@[simp] theorem State.retire_free : s.retire.free = s.free := rfl

/-! ### branchTo -/

@[simp] theorem State.branchTo_params (a : Word) : (s.branchTo a).params = s.params := rfl
@[simp] theorem State.branchTo_gpr (a : Word) : (s.branchTo a).gpr = s.gpr := rfl
@[simp] theorem State.branchTo_pc (a : Word) : (s.branchTo a).pc = s.pc + 4 := rfl
@[simp] theorem State.branchTo_pending (a : Word) : (s.branchTo a).pending = some a := rfl
@[simp] theorem State.branchTo_inDelaySlot (a : Word) : (s.branchTo a).inDelaySlot = true := rfl
@[simp] theorem State.branchTo_hi (a : Word) : (s.branchTo a).hi = s.hi := rfl
@[simp] theorem State.branchTo_lo (a : Word) : (s.branchTo a).lo = s.lo := rfl
@[simp] theorem State.branchTo_llBit (a : Word) : (s.branchTo a).llBit = s.llBit := rfl
@[simp] theorem State.branchTo_cp0 (a : Word) : (s.branchTo a).cp0 = s.cp0 := rfl
@[simp] theorem State.branchTo_tlb (a : Word) : (s.branchTo a).tlb = s.tlb := rfl
@[simp] theorem State.branchTo_icache (a : Word) : (s.branchTo a).icache = s.icache := rfl
@[simp] theorem State.branchTo_dcache (a : Word) : (s.branchTo a).dcache = s.dcache := rfl
@[simp] theorem State.branchTo_drseg (a : Word) : (s.branchTo a).drseg = s.drseg := rfl
@[simp] theorem State.branchTo_ejtag (a : Word) : (s.branchTo a).ejtag = s.ejtag := rfl
@[simp] theorem State.branchTo_stepped (a : Word) : (s.branchTo a).stepped = s.stepped := rfl
@[simp] theorem State.branchTo_waiting (a : Word) : (s.branchTo a).waiting = s.waiting := rfl
@[simp] theorem State.branchTo_powerMode (a : Word) : (s.branchTo a).powerMode = s.powerMode := rfl
@[simp] theorem State.branchTo_nmiReq (a : Word) : (s.branchTo a).nmiReq = s.nmiReq := rfl
@[simp] theorem State.branchTo_dintReq (a : Word) : (s.branchTo a).dintReq = s.dintReq := rfl
@[simp] theorem State.branchTo_resetReq (a : Word) : (s.branchTo a).resetReq = s.resetReq := rfl
@[simp] theorem State.branchTo_wbuf (a : Word) : (s.branchTo a).wbuf = s.wbuf := rfl
@[simp] theorem State.branchTo_mem (a : Word) : (s.branchTo a).mem = s.mem := rfl
@[simp] theorem State.branchTo_io (a : Word) : (s.branchTo a).io = s.io := rfl
@[simp] theorem State.branchTo_dev (a : Word) : (s.branchTo a).dev = s.dev := rfl
@[simp] theorem State.branchTo_console (a : Word) : (s.branchTo a).console = s.console := rfl
@[simp] theorem State.branchTo_agenda (a : Word) : (s.branchTo a).agenda = s.agenda := rfl
@[simp] theorem State.branchTo_between (a : Word) : (s.branchTo a).between = s.between := rfl
@[simp] theorem State.branchTo_free (a : Word) : (s.branchTo a).free = s.free := rfl

/-! ### fallThrough -/

@[simp] theorem State.fallThrough_params : s.fallThrough.params = s.params := rfl
@[simp] theorem State.fallThrough_gpr : s.fallThrough.gpr = s.gpr := rfl
@[simp] theorem State.fallThrough_pc : s.fallThrough.pc = s.pc + 4 := rfl
@[simp] theorem State.fallThrough_pending : s.fallThrough.pending = none := rfl
@[simp] theorem State.fallThrough_inDelaySlot : s.fallThrough.inDelaySlot = true := rfl
@[simp] theorem State.fallThrough_hi : s.fallThrough.hi = s.hi := rfl
@[simp] theorem State.fallThrough_lo : s.fallThrough.lo = s.lo := rfl
@[simp] theorem State.fallThrough_llBit : s.fallThrough.llBit = s.llBit := rfl
@[simp] theorem State.fallThrough_cp0 : s.fallThrough.cp0 = s.cp0 := rfl
@[simp] theorem State.fallThrough_tlb : s.fallThrough.tlb = s.tlb := rfl
@[simp] theorem State.fallThrough_icache : s.fallThrough.icache = s.icache := rfl
@[simp] theorem State.fallThrough_dcache : s.fallThrough.dcache = s.dcache := rfl
@[simp] theorem State.fallThrough_drseg : s.fallThrough.drseg = s.drseg := rfl
@[simp] theorem State.fallThrough_ejtag : s.fallThrough.ejtag = s.ejtag := rfl
@[simp] theorem State.fallThrough_stepped : s.fallThrough.stepped = s.stepped := rfl
@[simp] theorem State.fallThrough_waiting : s.fallThrough.waiting = s.waiting := rfl
@[simp] theorem State.fallThrough_powerMode : s.fallThrough.powerMode = s.powerMode := rfl
@[simp] theorem State.fallThrough_nmiReq : s.fallThrough.nmiReq = s.nmiReq := rfl
@[simp] theorem State.fallThrough_dintReq : s.fallThrough.dintReq = s.dintReq := rfl
@[simp] theorem State.fallThrough_resetReq : s.fallThrough.resetReq = s.resetReq := rfl
@[simp] theorem State.fallThrough_wbuf : s.fallThrough.wbuf = s.wbuf := rfl
@[simp] theorem State.fallThrough_mem : s.fallThrough.mem = s.mem := rfl
@[simp] theorem State.fallThrough_io : s.fallThrough.io = s.io := rfl
@[simp] theorem State.fallThrough_dev : s.fallThrough.dev = s.dev := rfl
@[simp] theorem State.fallThrough_console : s.fallThrough.console = s.console := rfl
@[simp] theorem State.fallThrough_agenda : s.fallThrough.agenda = s.agenda := rfl
@[simp] theorem State.fallThrough_between : s.fallThrough.between = s.between := rfl
@[simp] theorem State.fallThrough_free : s.fallThrough.free = s.free := rfl

/-! ### nullify -/

@[simp] theorem State.nullify_params : s.nullify.params = s.params := rfl
@[simp] theorem State.nullify_gpr : s.nullify.gpr = s.gpr := rfl
@[simp] theorem State.nullify_pc : s.nullify.pc = s.pc + 8 := rfl
@[simp] theorem State.nullify_pending : s.nullify.pending = none := rfl
@[simp] theorem State.nullify_inDelaySlot : s.nullify.inDelaySlot = false := rfl
@[simp] theorem State.nullify_hi : s.nullify.hi = s.hi := rfl
@[simp] theorem State.nullify_lo : s.nullify.lo = s.lo := rfl
@[simp] theorem State.nullify_llBit : s.nullify.llBit = s.llBit := rfl
@[simp] theorem State.nullify_cp0 : s.nullify.cp0 = s.cp0 := rfl
@[simp] theorem State.nullify_tlb : s.nullify.tlb = s.tlb := rfl
@[simp] theorem State.nullify_icache : s.nullify.icache = s.icache := rfl
@[simp] theorem State.nullify_dcache : s.nullify.dcache = s.dcache := rfl
@[simp] theorem State.nullify_drseg : s.nullify.drseg = s.drseg := rfl
@[simp] theorem State.nullify_ejtag : s.nullify.ejtag = s.ejtag := rfl
@[simp] theorem State.nullify_stepped : s.nullify.stepped = s.stepped := rfl
@[simp] theorem State.nullify_waiting : s.nullify.waiting = s.waiting := rfl
@[simp] theorem State.nullify_powerMode : s.nullify.powerMode = s.powerMode := rfl
@[simp] theorem State.nullify_nmiReq : s.nullify.nmiReq = s.nmiReq := rfl
@[simp] theorem State.nullify_dintReq : s.nullify.dintReq = s.dintReq := rfl
@[simp] theorem State.nullify_resetReq : s.nullify.resetReq = s.resetReq := rfl
@[simp] theorem State.nullify_wbuf : s.nullify.wbuf = s.wbuf := rfl
@[simp] theorem State.nullify_mem : s.nullify.mem = s.mem := rfl
@[simp] theorem State.nullify_io : s.nullify.io = s.io := rfl
@[simp] theorem State.nullify_dev : s.nullify.dev = s.dev := rfl
@[simp] theorem State.nullify_console : s.nullify.console = s.console := rfl
@[simp] theorem State.nullify_agenda : s.nullify.agenda = s.agenda := rfl
@[simp] theorem State.nullify_between : s.nullify.between = s.between := rfl
@[simp] theorem State.nullify_free : s.nullify.free = s.free := rfl

/-! ### jumpNow -/

@[simp] theorem State.jumpNow_params (a : Word) : (s.jumpNow a).params = s.params := rfl
@[simp] theorem State.jumpNow_gpr (a : Word) : (s.jumpNow a).gpr = s.gpr := rfl
@[simp] theorem State.jumpNow_pc (a : Word) : (s.jumpNow a).pc = a := rfl
@[simp] theorem State.jumpNow_pending (a : Word) : (s.jumpNow a).pending = none := rfl
@[simp] theorem State.jumpNow_inDelaySlot (a : Word) : (s.jumpNow a).inDelaySlot = false := rfl
@[simp] theorem State.jumpNow_hi (a : Word) : (s.jumpNow a).hi = s.hi := rfl
@[simp] theorem State.jumpNow_lo (a : Word) : (s.jumpNow a).lo = s.lo := rfl
@[simp] theorem State.jumpNow_llBit (a : Word) : (s.jumpNow a).llBit = s.llBit := rfl
@[simp] theorem State.jumpNow_cp0 (a : Word) : (s.jumpNow a).cp0 = s.cp0 := rfl
@[simp] theorem State.jumpNow_tlb (a : Word) : (s.jumpNow a).tlb = s.tlb := rfl
@[simp] theorem State.jumpNow_icache (a : Word) : (s.jumpNow a).icache = s.icache := rfl
@[simp] theorem State.jumpNow_dcache (a : Word) : (s.jumpNow a).dcache = s.dcache := rfl
@[simp] theorem State.jumpNow_drseg (a : Word) : (s.jumpNow a).drseg = s.drseg := rfl
@[simp] theorem State.jumpNow_ejtag (a : Word) : (s.jumpNow a).ejtag = s.ejtag := rfl
@[simp] theorem State.jumpNow_stepped (a : Word) : (s.jumpNow a).stepped = s.stepped := rfl
@[simp] theorem State.jumpNow_waiting (a : Word) : (s.jumpNow a).waiting = s.waiting := rfl
@[simp] theorem State.jumpNow_powerMode (a : Word) : (s.jumpNow a).powerMode = s.powerMode := rfl
@[simp] theorem State.jumpNow_nmiReq (a : Word) : (s.jumpNow a).nmiReq = s.nmiReq := rfl
@[simp] theorem State.jumpNow_dintReq (a : Word) : (s.jumpNow a).dintReq = s.dintReq := rfl
@[simp] theorem State.jumpNow_resetReq (a : Word) : (s.jumpNow a).resetReq = s.resetReq := rfl
@[simp] theorem State.jumpNow_wbuf (a : Word) : (s.jumpNow a).wbuf = s.wbuf := rfl
@[simp] theorem State.jumpNow_mem (a : Word) : (s.jumpNow a).mem = s.mem := rfl
@[simp] theorem State.jumpNow_io (a : Word) : (s.jumpNow a).io = s.io := rfl
@[simp] theorem State.jumpNow_dev (a : Word) : (s.jumpNow a).dev = s.dev := rfl
@[simp] theorem State.jumpNow_console (a : Word) : (s.jumpNow a).console = s.console := rfl
@[simp] theorem State.jumpNow_agenda (a : Word) : (s.jumpNow a).agenda = s.agenda := rfl
@[simp] theorem State.jumpNow_between (a : Word) : (s.jumpNow a).between = s.between := rfl
@[simp] theorem State.jumpNow_free (a : Word) : (s.jumpNow a).free = s.free := rfl

/-! ### setReg -/

@[simp] theorem State.setReg_params (r : Reg) (v : Word) : (s.setReg r v).params = s.params := by unfold State.setReg; split <;> rfl
@[simp] theorem State.setReg_pc (r : Reg) (v : Word) : (s.setReg r v).pc = s.pc := by unfold State.setReg; split <;> rfl
@[simp] theorem State.setReg_pending (r : Reg) (v : Word) : (s.setReg r v).pending = s.pending := by unfold State.setReg; split <;> rfl
@[simp] theorem State.setReg_inDelaySlot (r : Reg) (v : Word) : (s.setReg r v).inDelaySlot = s.inDelaySlot := by unfold State.setReg; split <;> rfl
@[simp] theorem State.setReg_hi (r : Reg) (v : Word) : (s.setReg r v).hi = s.hi := by unfold State.setReg; split <;> rfl
@[simp] theorem State.setReg_lo (r : Reg) (v : Word) : (s.setReg r v).lo = s.lo := by unfold State.setReg; split <;> rfl
@[simp] theorem State.setReg_llBit (r : Reg) (v : Word) : (s.setReg r v).llBit = s.llBit := by unfold State.setReg; split <;> rfl
@[simp] theorem State.setReg_cp0 (r : Reg) (v : Word) : (s.setReg r v).cp0 = s.cp0 := by unfold State.setReg; split <;> rfl
@[simp] theorem State.setReg_tlb (r : Reg) (v : Word) : (s.setReg r v).tlb = s.tlb := by unfold State.setReg; split <;> rfl
@[simp] theorem State.setReg_icache (r : Reg) (v : Word) : (s.setReg r v).icache = s.icache := by unfold State.setReg; split <;> rfl
@[simp] theorem State.setReg_dcache (r : Reg) (v : Word) : (s.setReg r v).dcache = s.dcache := by unfold State.setReg; split <;> rfl
@[simp] theorem State.setReg_drseg (r : Reg) (v : Word) : (s.setReg r v).drseg = s.drseg := by unfold State.setReg; split <;> rfl
@[simp] theorem State.setReg_ejtag (r : Reg) (v : Word) : (s.setReg r v).ejtag = s.ejtag := by unfold State.setReg; split <;> rfl
@[simp] theorem State.setReg_stepped (r : Reg) (v : Word) : (s.setReg r v).stepped = s.stepped := by unfold State.setReg; split <;> rfl
@[simp] theorem State.setReg_waiting (r : Reg) (v : Word) : (s.setReg r v).waiting = s.waiting := by unfold State.setReg; split <;> rfl
@[simp] theorem State.setReg_powerMode (r : Reg) (v : Word) : (s.setReg r v).powerMode = s.powerMode := by unfold State.setReg; split <;> rfl
@[simp] theorem State.setReg_nmiReq (r : Reg) (v : Word) : (s.setReg r v).nmiReq = s.nmiReq := by unfold State.setReg; split <;> rfl
@[simp] theorem State.setReg_dintReq (r : Reg) (v : Word) : (s.setReg r v).dintReq = s.dintReq := by unfold State.setReg; split <;> rfl
@[simp] theorem State.setReg_resetReq (r : Reg) (v : Word) : (s.setReg r v).resetReq = s.resetReq := by unfold State.setReg; split <;> rfl
@[simp] theorem State.setReg_wbuf (r : Reg) (v : Word) : (s.setReg r v).wbuf = s.wbuf := by unfold State.setReg; split <;> rfl
@[simp] theorem State.setReg_mem (r : Reg) (v : Word) : (s.setReg r v).mem = s.mem := by unfold State.setReg; split <;> rfl
@[simp] theorem State.setReg_io (r : Reg) (v : Word) : (s.setReg r v).io = s.io := by unfold State.setReg; split <;> rfl
@[simp] theorem State.setReg_dev (r : Reg) (v : Word) : (s.setReg r v).dev = s.dev := by unfold State.setReg; split <;> rfl
@[simp] theorem State.setReg_console (r : Reg) (v : Word) : (s.setReg r v).console = s.console := by unfold State.setReg; split <;> rfl
@[simp] theorem State.setReg_agenda (r : Reg) (v : Word) : (s.setReg r v).agenda = s.agenda := by unfold State.setReg; split <;> rfl
@[simp] theorem State.setReg_between (r : Reg) (v : Word) : (s.setReg r v).between = s.between := by unfold State.setReg; split <;> rfl
@[simp] theorem State.setReg_free (r : Reg) (v : Word) : (s.setReg r v).free = s.free := by unfold State.setReg; split <;> rfl

/-! ### drawn -/

@[simp] theorem State.drawn_params (n : Nat) : (s.drawn n).params = s.params := rfl
@[simp] theorem State.drawn_gpr (n : Nat) : (s.drawn n).gpr = s.gpr := rfl
@[simp] theorem State.drawn_pc (n : Nat) : (s.drawn n).pc = s.pc := rfl
@[simp] theorem State.drawn_pending (n : Nat) : (s.drawn n).pending = s.pending := rfl
@[simp] theorem State.drawn_inDelaySlot (n : Nat) : (s.drawn n).inDelaySlot = s.inDelaySlot := rfl
@[simp] theorem State.drawn_hi (n : Nat) : (s.drawn n).hi = s.hi := rfl
@[simp] theorem State.drawn_lo (n : Nat) : (s.drawn n).lo = s.lo := rfl
@[simp] theorem State.drawn_llBit (n : Nat) : (s.drawn n).llBit = s.llBit := rfl
@[simp] theorem State.drawn_cp0 (n : Nat) : (s.drawn n).cp0 = s.cp0 := rfl
@[simp] theorem State.drawn_tlb (n : Nat) : (s.drawn n).tlb = s.tlb := rfl
@[simp] theorem State.drawn_icache (n : Nat) : (s.drawn n).icache = s.icache := rfl
@[simp] theorem State.drawn_dcache (n : Nat) : (s.drawn n).dcache = s.dcache := rfl
@[simp] theorem State.drawn_drseg (n : Nat) : (s.drawn n).drseg = s.drseg := rfl
@[simp] theorem State.drawn_ejtag (n : Nat) : (s.drawn n).ejtag = s.ejtag := rfl
@[simp] theorem State.drawn_stepped (n : Nat) : (s.drawn n).stepped = s.stepped := rfl
@[simp] theorem State.drawn_waiting (n : Nat) : (s.drawn n).waiting = s.waiting := rfl
@[simp] theorem State.drawn_powerMode (n : Nat) : (s.drawn n).powerMode = s.powerMode := rfl
@[simp] theorem State.drawn_nmiReq (n : Nat) : (s.drawn n).nmiReq = s.nmiReq := rfl
@[simp] theorem State.drawn_dintReq (n : Nat) : (s.drawn n).dintReq = s.dintReq := rfl
@[simp] theorem State.drawn_resetReq (n : Nat) : (s.drawn n).resetReq = s.resetReq := rfl
@[simp] theorem State.drawn_wbuf (n : Nat) : (s.drawn n).wbuf = s.wbuf := rfl
@[simp] theorem State.drawn_mem (n : Nat) : (s.drawn n).mem = s.mem := rfl
@[simp] theorem State.drawn_io (n : Nat) : (s.drawn n).io = s.io := rfl
@[simp] theorem State.drawn_dev (n : Nat) : (s.drawn n).dev = s.dev := rfl
@[simp] theorem State.drawn_console (n : Nat) : (s.drawn n).console = s.console := rfl
@[simp] theorem State.drawn_agenda (n : Nat) : (s.drawn n).agenda = s.agenda := rfl
@[simp] theorem State.drawn_between (n : Nat) : (s.drawn n).between = s.between := rfl
@[simp] theorem State.drawn_free (n : Nat) : (s.drawn n).free = s.free + n := rfl

/-! ### withCp0 -/

@[simp] theorem State.withCp0_params (c : Cp0) : (s.withCp0 c).params = s.params := rfl
@[simp] theorem State.withCp0_gpr (c : Cp0) : (s.withCp0 c).gpr = s.gpr := rfl
@[simp] theorem State.withCp0_pc (c : Cp0) : (s.withCp0 c).pc = s.pc := rfl
@[simp] theorem State.withCp0_pending (c : Cp0) : (s.withCp0 c).pending = s.pending := rfl
@[simp] theorem State.withCp0_inDelaySlot (c : Cp0) : (s.withCp0 c).inDelaySlot = s.inDelaySlot := rfl
@[simp] theorem State.withCp0_hi (c : Cp0) : (s.withCp0 c).hi = s.hi := rfl
@[simp] theorem State.withCp0_lo (c : Cp0) : (s.withCp0 c).lo = s.lo := rfl
@[simp] theorem State.withCp0_llBit (c : Cp0) : (s.withCp0 c).llBit = s.llBit := rfl
@[simp] theorem State.withCp0_cp0 (c : Cp0) : (s.withCp0 c).cp0 = c := rfl
@[simp] theorem State.withCp0_tlb (c : Cp0) : (s.withCp0 c).tlb = s.tlb := rfl
@[simp] theorem State.withCp0_icache (c : Cp0) : (s.withCp0 c).icache = s.icache := rfl
@[simp] theorem State.withCp0_dcache (c : Cp0) : (s.withCp0 c).dcache = s.dcache := rfl
@[simp] theorem State.withCp0_drseg (c : Cp0) : (s.withCp0 c).drseg = s.drseg := rfl
@[simp] theorem State.withCp0_ejtag (c : Cp0) : (s.withCp0 c).ejtag = s.ejtag := rfl
@[simp] theorem State.withCp0_stepped (c : Cp0) : (s.withCp0 c).stepped = s.stepped := rfl
@[simp] theorem State.withCp0_waiting (c : Cp0) : (s.withCp0 c).waiting = s.waiting := rfl
@[simp] theorem State.withCp0_powerMode (c : Cp0) : (s.withCp0 c).powerMode = s.powerMode := rfl
@[simp] theorem State.withCp0_nmiReq (c : Cp0) : (s.withCp0 c).nmiReq = s.nmiReq := rfl
@[simp] theorem State.withCp0_dintReq (c : Cp0) : (s.withCp0 c).dintReq = s.dintReq := rfl
@[simp] theorem State.withCp0_resetReq (c : Cp0) : (s.withCp0 c).resetReq = s.resetReq := rfl
@[simp] theorem State.withCp0_wbuf (c : Cp0) : (s.withCp0 c).wbuf = s.wbuf := rfl
@[simp] theorem State.withCp0_mem (c : Cp0) : (s.withCp0 c).mem = s.mem := rfl
@[simp] theorem State.withCp0_io (c : Cp0) : (s.withCp0 c).io = s.io := rfl
@[simp] theorem State.withCp0_dev (c : Cp0) : (s.withCp0 c).dev = s.dev := rfl
@[simp] theorem State.withCp0_console (c : Cp0) : (s.withCp0 c).console = s.console := rfl
@[simp] theorem State.withCp0_agenda (c : Cp0) : (s.withCp0 c).agenda = s.agenda := rfl
@[simp] theorem State.withCp0_between (c : Cp0) : (s.withCp0 c).between = s.between := rfl
@[simp] theorem State.withCp0_free (c : Cp0) : (s.withCp0 c).free = s.free := rfl

/-! ### setMemByte -/

@[simp] theorem State.setMemByte_params (k : Nat) (b : Byte) : (s.setMemByte k b).params = s.params := rfl
@[simp] theorem State.setMemByte_gpr (k : Nat) (b : Byte) : (s.setMemByte k b).gpr = s.gpr := rfl
@[simp] theorem State.setMemByte_pc (k : Nat) (b : Byte) : (s.setMemByte k b).pc = s.pc := rfl
@[simp] theorem State.setMemByte_pending (k : Nat) (b : Byte) : (s.setMemByte k b).pending = s.pending := rfl
@[simp] theorem State.setMemByte_inDelaySlot (k : Nat) (b : Byte) : (s.setMemByte k b).inDelaySlot = s.inDelaySlot := rfl
@[simp] theorem State.setMemByte_hi (k : Nat) (b : Byte) : (s.setMemByte k b).hi = s.hi := rfl
@[simp] theorem State.setMemByte_lo (k : Nat) (b : Byte) : (s.setMemByte k b).lo = s.lo := rfl
@[simp] theorem State.setMemByte_llBit (k : Nat) (b : Byte) : (s.setMemByte k b).llBit = s.llBit := rfl
@[simp] theorem State.setMemByte_cp0 (k : Nat) (b : Byte) : (s.setMemByte k b).cp0 = s.cp0 := rfl
@[simp] theorem State.setMemByte_tlb (k : Nat) (b : Byte) : (s.setMemByte k b).tlb = s.tlb := rfl
@[simp] theorem State.setMemByte_icache (k : Nat) (b : Byte) : (s.setMemByte k b).icache = s.icache := rfl
@[simp] theorem State.setMemByte_dcache (k : Nat) (b : Byte) : (s.setMemByte k b).dcache = s.dcache := rfl
@[simp] theorem State.setMemByte_drseg (k : Nat) (b : Byte) : (s.setMemByte k b).drseg = s.drseg := rfl
@[simp] theorem State.setMemByte_ejtag (k : Nat) (b : Byte) : (s.setMemByte k b).ejtag = s.ejtag := rfl
@[simp] theorem State.setMemByte_stepped (k : Nat) (b : Byte) : (s.setMemByte k b).stepped = s.stepped := rfl
@[simp] theorem State.setMemByte_waiting (k : Nat) (b : Byte) : (s.setMemByte k b).waiting = s.waiting := rfl
@[simp] theorem State.setMemByte_powerMode (k : Nat) (b : Byte) : (s.setMemByte k b).powerMode = s.powerMode := rfl
@[simp] theorem State.setMemByte_nmiReq (k : Nat) (b : Byte) : (s.setMemByte k b).nmiReq = s.nmiReq := rfl
@[simp] theorem State.setMemByte_dintReq (k : Nat) (b : Byte) : (s.setMemByte k b).dintReq = s.dintReq := rfl
@[simp] theorem State.setMemByte_resetReq (k : Nat) (b : Byte) : (s.setMemByte k b).resetReq = s.resetReq := rfl
@[simp] theorem State.setMemByte_wbuf (k : Nat) (b : Byte) : (s.setMemByte k b).wbuf = s.wbuf := rfl
@[simp] theorem State.setMemByte_mem (k : Nat) (b : Byte) : (s.setMemByte k b).mem = Sparse.set memDefault k b s.mem := rfl
@[simp] theorem State.setMemByte_io (k : Nat) (b : Byte) : (s.setMemByte k b).io = s.io := rfl
@[simp] theorem State.setMemByte_dev (k : Nat) (b : Byte) : (s.setMemByte k b).dev = s.dev := rfl
@[simp] theorem State.setMemByte_console (k : Nat) (b : Byte) : (s.setMemByte k b).console = s.console := rfl
@[simp] theorem State.setMemByte_agenda (k : Nat) (b : Byte) : (s.setMemByte k b).agenda = s.agenda := rfl
@[simp] theorem State.setMemByte_between (k : Nat) (b : Byte) : (s.setMemByte k b).between = s.between := rfl
@[simp] theorem State.setMemByte_free (k : Nat) (b : Byte) : (s.setMemByte k b).free = s.free := rfl

/-! ### ioSet -/

@[simp] theorem State.ioSet_params (a : Nat) (v : Word) : (s.ioSet a v).params = s.params := rfl
@[simp] theorem State.ioSet_gpr (a : Nat) (v : Word) : (s.ioSet a v).gpr = s.gpr := rfl
@[simp] theorem State.ioSet_pc (a : Nat) (v : Word) : (s.ioSet a v).pc = s.pc := rfl
@[simp] theorem State.ioSet_pending (a : Nat) (v : Word) : (s.ioSet a v).pending = s.pending := rfl
@[simp] theorem State.ioSet_inDelaySlot (a : Nat) (v : Word) : (s.ioSet a v).inDelaySlot = s.inDelaySlot := rfl
@[simp] theorem State.ioSet_hi (a : Nat) (v : Word) : (s.ioSet a v).hi = s.hi := rfl
@[simp] theorem State.ioSet_lo (a : Nat) (v : Word) : (s.ioSet a v).lo = s.lo := rfl
@[simp] theorem State.ioSet_llBit (a : Nat) (v : Word) : (s.ioSet a v).llBit = s.llBit := rfl
@[simp] theorem State.ioSet_cp0 (a : Nat) (v : Word) : (s.ioSet a v).cp0 = s.cp0 := rfl
@[simp] theorem State.ioSet_tlb (a : Nat) (v : Word) : (s.ioSet a v).tlb = s.tlb := rfl
@[simp] theorem State.ioSet_icache (a : Nat) (v : Word) : (s.ioSet a v).icache = s.icache := rfl
@[simp] theorem State.ioSet_dcache (a : Nat) (v : Word) : (s.ioSet a v).dcache = s.dcache := rfl
@[simp] theorem State.ioSet_drseg (a : Nat) (v : Word) : (s.ioSet a v).drseg = s.drseg := rfl
@[simp] theorem State.ioSet_ejtag (a : Nat) (v : Word) : (s.ioSet a v).ejtag = s.ejtag := rfl
@[simp] theorem State.ioSet_stepped (a : Nat) (v : Word) : (s.ioSet a v).stepped = s.stepped := rfl
@[simp] theorem State.ioSet_waiting (a : Nat) (v : Word) : (s.ioSet a v).waiting = s.waiting := rfl
@[simp] theorem State.ioSet_powerMode (a : Nat) (v : Word) : (s.ioSet a v).powerMode = s.powerMode := rfl
@[simp] theorem State.ioSet_nmiReq (a : Nat) (v : Word) : (s.ioSet a v).nmiReq = s.nmiReq := rfl
@[simp] theorem State.ioSet_dintReq (a : Nat) (v : Word) : (s.ioSet a v).dintReq = s.dintReq := rfl
@[simp] theorem State.ioSet_resetReq (a : Nat) (v : Word) : (s.ioSet a v).resetReq = s.resetReq := rfl
@[simp] theorem State.ioSet_wbuf (a : Nat) (v : Word) : (s.ioSet a v).wbuf = s.wbuf := rfl
@[simp] theorem State.ioSet_mem (a : Nat) (v : Word) : (s.ioSet a v).mem = s.mem := rfl
@[simp] theorem State.ioSet_io (a : Nat) (v : Word) : (s.ioSet a v).io = Sparse.set (ioReset s.params) a v s.io := rfl
@[simp] theorem State.ioSet_dev (a : Nat) (v : Word) : (s.ioSet a v).dev = s.dev := rfl
@[simp] theorem State.ioSet_console (a : Nat) (v : Word) : (s.ioSet a v).console = s.console := rfl
@[simp] theorem State.ioSet_agenda (a : Nat) (v : Word) : (s.ioSet a v).agenda = s.agenda := rfl
@[simp] theorem State.ioSet_between (a : Nat) (v : Word) : (s.ioSet a v).between = s.between := rfl
@[simp] theorem State.ioSet_free (a : Nat) (v : Word) : (s.ioSet a v).free = s.free := rfl

/-! ### setHiLo -/

@[simp] theorem State.setHiLo_params (p : BitVec 64) : (s.setHiLo p).params = s.params := rfl
@[simp] theorem State.setHiLo_gpr (p : BitVec 64) : (s.setHiLo p).gpr = s.gpr := rfl
@[simp] theorem State.setHiLo_pc (p : BitVec 64) : (s.setHiLo p).pc = s.pc := rfl
@[simp] theorem State.setHiLo_pending (p : BitVec 64) : (s.setHiLo p).pending = s.pending := rfl
@[simp] theorem State.setHiLo_inDelaySlot (p : BitVec 64) : (s.setHiLo p).inDelaySlot = s.inDelaySlot := rfl
@[simp] theorem State.setHiLo_hi (p : BitVec 64) : (s.setHiLo p).hi = p.extractLsb' 32 32 := rfl
@[simp] theorem State.setHiLo_lo (p : BitVec 64) : (s.setHiLo p).lo = p.extractLsb' 0 32 := rfl
@[simp] theorem State.setHiLo_llBit (p : BitVec 64) : (s.setHiLo p).llBit = s.llBit := rfl
@[simp] theorem State.setHiLo_cp0 (p : BitVec 64) : (s.setHiLo p).cp0 = s.cp0 := rfl
@[simp] theorem State.setHiLo_tlb (p : BitVec 64) : (s.setHiLo p).tlb = s.tlb := rfl
@[simp] theorem State.setHiLo_icache (p : BitVec 64) : (s.setHiLo p).icache = s.icache := rfl
@[simp] theorem State.setHiLo_dcache (p : BitVec 64) : (s.setHiLo p).dcache = s.dcache := rfl
@[simp] theorem State.setHiLo_drseg (p : BitVec 64) : (s.setHiLo p).drseg = s.drseg := rfl
@[simp] theorem State.setHiLo_ejtag (p : BitVec 64) : (s.setHiLo p).ejtag = s.ejtag := rfl
@[simp] theorem State.setHiLo_stepped (p : BitVec 64) : (s.setHiLo p).stepped = s.stepped := rfl
@[simp] theorem State.setHiLo_waiting (p : BitVec 64) : (s.setHiLo p).waiting = s.waiting := rfl
@[simp] theorem State.setHiLo_powerMode (p : BitVec 64) : (s.setHiLo p).powerMode = s.powerMode := rfl
@[simp] theorem State.setHiLo_nmiReq (p : BitVec 64) : (s.setHiLo p).nmiReq = s.nmiReq := rfl
@[simp] theorem State.setHiLo_dintReq (p : BitVec 64) : (s.setHiLo p).dintReq = s.dintReq := rfl
@[simp] theorem State.setHiLo_resetReq (p : BitVec 64) : (s.setHiLo p).resetReq = s.resetReq := rfl
@[simp] theorem State.setHiLo_wbuf (p : BitVec 64) : (s.setHiLo p).wbuf = s.wbuf := rfl
@[simp] theorem State.setHiLo_mem (p : BitVec 64) : (s.setHiLo p).mem = s.mem := rfl
@[simp] theorem State.setHiLo_io (p : BitVec 64) : (s.setHiLo p).io = s.io := rfl
@[simp] theorem State.setHiLo_dev (p : BitVec 64) : (s.setHiLo p).dev = s.dev := rfl
@[simp] theorem State.setHiLo_console (p : BitVec 64) : (s.setHiLo p).console = s.console := rfl
@[simp] theorem State.setHiLo_agenda (p : BitVec 64) : (s.setHiLo p).agenda = s.agenda := rfl
@[simp] theorem State.setHiLo_between (p : BitVec 64) : (s.setHiLo p).between = s.between := rfl
@[simp] theorem State.setHiLo_free (p : BitVec 64) : (s.setHiLo p).free = s.free := rfl

/-! ### freeHiLo -/

@[simp] theorem State.freeHiLo_params : s.freeHiLo.params = s.params := rfl
@[simp] theorem State.freeHiLo_gpr : s.freeHiLo.gpr = s.gpr := rfl
@[simp] theorem State.freeHiLo_pc : s.freeHiLo.pc = s.pc := rfl
@[simp] theorem State.freeHiLo_pending : s.freeHiLo.pending = s.pending := rfl
@[simp] theorem State.freeHiLo_inDelaySlot : s.freeHiLo.inDelaySlot = s.inDelaySlot := rfl
@[simp] theorem State.freeHiLo_hi : s.freeHiLo.hi = s.draw := rfl
@[simp] theorem State.freeHiLo_lo : s.freeHiLo.lo = (s.drawn 1).draw := rfl
@[simp] theorem State.freeHiLo_llBit : s.freeHiLo.llBit = s.llBit := rfl
@[simp] theorem State.freeHiLo_cp0 : s.freeHiLo.cp0 = s.cp0 := rfl
@[simp] theorem State.freeHiLo_tlb : s.freeHiLo.tlb = s.tlb := rfl
@[simp] theorem State.freeHiLo_icache : s.freeHiLo.icache = s.icache := rfl
@[simp] theorem State.freeHiLo_dcache : s.freeHiLo.dcache = s.dcache := rfl
@[simp] theorem State.freeHiLo_drseg : s.freeHiLo.drseg = s.drseg := rfl
@[simp] theorem State.freeHiLo_ejtag : s.freeHiLo.ejtag = s.ejtag := rfl
@[simp] theorem State.freeHiLo_stepped : s.freeHiLo.stepped = s.stepped := rfl
@[simp] theorem State.freeHiLo_waiting : s.freeHiLo.waiting = s.waiting := rfl
@[simp] theorem State.freeHiLo_powerMode : s.freeHiLo.powerMode = s.powerMode := rfl
@[simp] theorem State.freeHiLo_nmiReq : s.freeHiLo.nmiReq = s.nmiReq := rfl
@[simp] theorem State.freeHiLo_dintReq : s.freeHiLo.dintReq = s.dintReq := rfl
@[simp] theorem State.freeHiLo_resetReq : s.freeHiLo.resetReq = s.resetReq := rfl
@[simp] theorem State.freeHiLo_wbuf : s.freeHiLo.wbuf = s.wbuf := rfl
@[simp] theorem State.freeHiLo_mem : s.freeHiLo.mem = s.mem := rfl
@[simp] theorem State.freeHiLo_io : s.freeHiLo.io = s.io := rfl
@[simp] theorem State.freeHiLo_dev : s.freeHiLo.dev = s.dev := rfl
@[simp] theorem State.freeHiLo_console : s.freeHiLo.console = s.console := rfl
@[simp] theorem State.freeHiLo_agenda : s.freeHiLo.agenda = s.agenda := rfl
@[simp] theorem State.freeHiLo_between : s.freeHiLo.between = s.between := rfl
@[simp] theorem State.freeHiLo_free : s.freeHiLo.free = s.free + 2 := rfl

/-! ### setTlb -/

@[simp] theorem State.setTlb_params (i : Nat) (e : TlbEntry) : (s.setTlb i e).params = s.params := rfl
@[simp] theorem State.setTlb_gpr (i : Nat) (e : TlbEntry) : (s.setTlb i e).gpr = s.gpr := rfl
@[simp] theorem State.setTlb_pc (i : Nat) (e : TlbEntry) : (s.setTlb i e).pc = s.pc := rfl
@[simp] theorem State.setTlb_pending (i : Nat) (e : TlbEntry) : (s.setTlb i e).pending = s.pending := rfl
@[simp] theorem State.setTlb_inDelaySlot (i : Nat) (e : TlbEntry) : (s.setTlb i e).inDelaySlot = s.inDelaySlot := rfl
@[simp] theorem State.setTlb_hi (i : Nat) (e : TlbEntry) : (s.setTlb i e).hi = s.hi := rfl
@[simp] theorem State.setTlb_lo (i : Nat) (e : TlbEntry) : (s.setTlb i e).lo = s.lo := rfl
@[simp] theorem State.setTlb_llBit (i : Nat) (e : TlbEntry) : (s.setTlb i e).llBit = s.llBit := rfl
@[simp] theorem State.setTlb_cp0 (i : Nat) (e : TlbEntry) : (s.setTlb i e).cp0 = s.cp0 := rfl
@[simp] theorem State.setTlb_icache (i : Nat) (e : TlbEntry) : (s.setTlb i e).icache = s.icache := rfl
@[simp] theorem State.setTlb_dcache (i : Nat) (e : TlbEntry) : (s.setTlb i e).dcache = s.dcache := rfl
@[simp] theorem State.setTlb_drseg (i : Nat) (e : TlbEntry) : (s.setTlb i e).drseg = s.drseg := rfl
@[simp] theorem State.setTlb_ejtag (i : Nat) (e : TlbEntry) : (s.setTlb i e).ejtag = s.ejtag := rfl
@[simp] theorem State.setTlb_stepped (i : Nat) (e : TlbEntry) : (s.setTlb i e).stepped = s.stepped := rfl
@[simp] theorem State.setTlb_waiting (i : Nat) (e : TlbEntry) : (s.setTlb i e).waiting = s.waiting := rfl
@[simp] theorem State.setTlb_powerMode (i : Nat) (e : TlbEntry) : (s.setTlb i e).powerMode = s.powerMode := rfl
@[simp] theorem State.setTlb_nmiReq (i : Nat) (e : TlbEntry) : (s.setTlb i e).nmiReq = s.nmiReq := rfl
@[simp] theorem State.setTlb_dintReq (i : Nat) (e : TlbEntry) : (s.setTlb i e).dintReq = s.dintReq := rfl
@[simp] theorem State.setTlb_resetReq (i : Nat) (e : TlbEntry) : (s.setTlb i e).resetReq = s.resetReq := rfl
@[simp] theorem State.setTlb_wbuf (i : Nat) (e : TlbEntry) : (s.setTlb i e).wbuf = s.wbuf := rfl
@[simp] theorem State.setTlb_mem (i : Nat) (e : TlbEntry) : (s.setTlb i e).mem = s.mem := rfl
@[simp] theorem State.setTlb_io (i : Nat) (e : TlbEntry) : (s.setTlb i e).io = s.io := rfl
@[simp] theorem State.setTlb_dev (i : Nat) (e : TlbEntry) : (s.setTlb i e).dev = s.dev := rfl
@[simp] theorem State.setTlb_console (i : Nat) (e : TlbEntry) : (s.setTlb i e).console = s.console := rfl
@[simp] theorem State.setTlb_agenda (i : Nat) (e : TlbEntry) : (s.setTlb i e).agenda = s.agenda := rfl
@[simp] theorem State.setTlb_between (i : Nat) (e : TlbEntry) : (s.setTlb i e).between = s.between := rfl
@[simp] theorem State.setTlb_free (i : Nat) (e : TlbEntry) : (s.setTlb i e).free = s.free := rfl

/-! ### setDline -/

@[simp] theorem State.setDline_params (k : Nat) (l : CacheLine) : (s.setDline k l).params = s.params := rfl
@[simp] theorem State.setDline_gpr (k : Nat) (l : CacheLine) : (s.setDline k l).gpr = s.gpr := rfl
@[simp] theorem State.setDline_pc (k : Nat) (l : CacheLine) : (s.setDline k l).pc = s.pc := rfl
@[simp] theorem State.setDline_pending (k : Nat) (l : CacheLine) : (s.setDline k l).pending = s.pending := rfl
@[simp] theorem State.setDline_inDelaySlot (k : Nat) (l : CacheLine) : (s.setDline k l).inDelaySlot = s.inDelaySlot := rfl
@[simp] theorem State.setDline_hi (k : Nat) (l : CacheLine) : (s.setDline k l).hi = s.hi := rfl
@[simp] theorem State.setDline_lo (k : Nat) (l : CacheLine) : (s.setDline k l).lo = s.lo := rfl
@[simp] theorem State.setDline_llBit (k : Nat) (l : CacheLine) : (s.setDline k l).llBit = s.llBit := rfl
@[simp] theorem State.setDline_cp0 (k : Nat) (l : CacheLine) : (s.setDline k l).cp0 = s.cp0 := rfl
@[simp] theorem State.setDline_tlb (k : Nat) (l : CacheLine) : (s.setDline k l).tlb = s.tlb := rfl
@[simp] theorem State.setDline_icache (k : Nat) (l : CacheLine) : (s.setDline k l).icache = s.icache := rfl
@[simp] theorem State.setDline_dcache (k : Nat) (l : CacheLine) : (s.setDline k l).dcache = Sparse.set lineDefault k l s.dcache := rfl
@[simp] theorem State.setDline_drseg (k : Nat) (l : CacheLine) : (s.setDline k l).drseg = s.drseg := rfl
@[simp] theorem State.setDline_ejtag (k : Nat) (l : CacheLine) : (s.setDline k l).ejtag = s.ejtag := rfl
@[simp] theorem State.setDline_stepped (k : Nat) (l : CacheLine) : (s.setDline k l).stepped = s.stepped := rfl
@[simp] theorem State.setDline_waiting (k : Nat) (l : CacheLine) : (s.setDline k l).waiting = s.waiting := rfl
@[simp] theorem State.setDline_powerMode (k : Nat) (l : CacheLine) : (s.setDline k l).powerMode = s.powerMode := rfl
@[simp] theorem State.setDline_nmiReq (k : Nat) (l : CacheLine) : (s.setDline k l).nmiReq = s.nmiReq := rfl
@[simp] theorem State.setDline_dintReq (k : Nat) (l : CacheLine) : (s.setDline k l).dintReq = s.dintReq := rfl
@[simp] theorem State.setDline_resetReq (k : Nat) (l : CacheLine) : (s.setDline k l).resetReq = s.resetReq := rfl
@[simp] theorem State.setDline_wbuf (k : Nat) (l : CacheLine) : (s.setDline k l).wbuf = s.wbuf := rfl
@[simp] theorem State.setDline_mem (k : Nat) (l : CacheLine) : (s.setDline k l).mem = s.mem := rfl
@[simp] theorem State.setDline_io (k : Nat) (l : CacheLine) : (s.setDline k l).io = s.io := rfl
@[simp] theorem State.setDline_dev (k : Nat) (l : CacheLine) : (s.setDline k l).dev = s.dev := rfl
@[simp] theorem State.setDline_console (k : Nat) (l : CacheLine) : (s.setDline k l).console = s.console := rfl
@[simp] theorem State.setDline_agenda (k : Nat) (l : CacheLine) : (s.setDline k l).agenda = s.agenda := rfl
@[simp] theorem State.setDline_between (k : Nat) (l : CacheLine) : (s.setDline k l).between = s.between := rfl
@[simp] theorem State.setDline_free (k : Nat) (l : CacheLine) : (s.setDline k l).free = s.free := rfl

/-! ### setIline -/

@[simp] theorem State.setIline_params (k : Nat) (l : CacheLine) : (s.setIline k l).params = s.params := rfl
@[simp] theorem State.setIline_gpr (k : Nat) (l : CacheLine) : (s.setIline k l).gpr = s.gpr := rfl
@[simp] theorem State.setIline_pc (k : Nat) (l : CacheLine) : (s.setIline k l).pc = s.pc := rfl
@[simp] theorem State.setIline_pending (k : Nat) (l : CacheLine) : (s.setIline k l).pending = s.pending := rfl
@[simp] theorem State.setIline_inDelaySlot (k : Nat) (l : CacheLine) : (s.setIline k l).inDelaySlot = s.inDelaySlot := rfl
@[simp] theorem State.setIline_hi (k : Nat) (l : CacheLine) : (s.setIline k l).hi = s.hi := rfl
@[simp] theorem State.setIline_lo (k : Nat) (l : CacheLine) : (s.setIline k l).lo = s.lo := rfl
@[simp] theorem State.setIline_llBit (k : Nat) (l : CacheLine) : (s.setIline k l).llBit = s.llBit := rfl
@[simp] theorem State.setIline_cp0 (k : Nat) (l : CacheLine) : (s.setIline k l).cp0 = s.cp0 := rfl
@[simp] theorem State.setIline_tlb (k : Nat) (l : CacheLine) : (s.setIline k l).tlb = s.tlb := rfl
@[simp] theorem State.setIline_icache (k : Nat) (l : CacheLine) : (s.setIline k l).icache = Sparse.set lineDefault k l s.icache := rfl
@[simp] theorem State.setIline_dcache (k : Nat) (l : CacheLine) : (s.setIline k l).dcache = s.dcache := rfl
@[simp] theorem State.setIline_drseg (k : Nat) (l : CacheLine) : (s.setIline k l).drseg = s.drseg := rfl
@[simp] theorem State.setIline_ejtag (k : Nat) (l : CacheLine) : (s.setIline k l).ejtag = s.ejtag := rfl
@[simp] theorem State.setIline_stepped (k : Nat) (l : CacheLine) : (s.setIline k l).stepped = s.stepped := rfl
@[simp] theorem State.setIline_waiting (k : Nat) (l : CacheLine) : (s.setIline k l).waiting = s.waiting := rfl
@[simp] theorem State.setIline_powerMode (k : Nat) (l : CacheLine) : (s.setIline k l).powerMode = s.powerMode := rfl
@[simp] theorem State.setIline_nmiReq (k : Nat) (l : CacheLine) : (s.setIline k l).nmiReq = s.nmiReq := rfl
@[simp] theorem State.setIline_dintReq (k : Nat) (l : CacheLine) : (s.setIline k l).dintReq = s.dintReq := rfl
@[simp] theorem State.setIline_resetReq (k : Nat) (l : CacheLine) : (s.setIline k l).resetReq = s.resetReq := rfl
@[simp] theorem State.setIline_wbuf (k : Nat) (l : CacheLine) : (s.setIline k l).wbuf = s.wbuf := rfl
@[simp] theorem State.setIline_mem (k : Nat) (l : CacheLine) : (s.setIline k l).mem = s.mem := rfl
@[simp] theorem State.setIline_io (k : Nat) (l : CacheLine) : (s.setIline k l).io = s.io := rfl
@[simp] theorem State.setIline_dev (k : Nat) (l : CacheLine) : (s.setIline k l).dev = s.dev := rfl
@[simp] theorem State.setIline_console (k : Nat) (l : CacheLine) : (s.setIline k l).console = s.console := rfl
@[simp] theorem State.setIline_agenda (k : Nat) (l : CacheLine) : (s.setIline k l).agenda = s.agenda := rfl
@[simp] theorem State.setIline_between (k : Nat) (l : CacheLine) : (s.setIline k l).between = s.between := rfl
@[simp] theorem State.setIline_free (k : Nat) (l : CacheLine) : (s.setIline k l).free = s.free := rfl

end Sys2Proof.Machine
end

