-- ==== Sys2Proof/Laws/Sparse.lean ====
section
/-! SUPPORT. The laws of sparse maps: reading after writing, and the canonical form. Memory's laws follow. -/

namespace Sys2Proof.Machine

variable {β : Type} [DecidableEq β] (d : Nat → β)

/-- Every key of a map is above `k`. -/
def Sparse.above (k : Nat) (l : List (Nat × β)) : Prop := ∀ e ∈ l, k < e.1

theorem Sparse.wf_cons {k : Nat} {v : β} {t : List (Nat × β)} :
    Sparse.wf d ((k, v) :: t) = true ↔ v ≠ d k ∧ Sparse.above k t ∧ Sparse.wf d t = true := by
  simp [Sparse.wf, Sparse.above, and_assoc]

omit [DecidableEq β] in
/-- A key below all listed keys reads its default. -/
theorem Sparse.get_above {k : Nat} {l : List (Nat × β)} (h : Sparse.above k l) : Sparse.get d k l = d k := by
  induction l with
  | nil => rfl
  | cons e t ih =>
    obtain ⟨j, u⟩ := e
    have hj : k < j := h (j, u) (by simp)
    have ht : Sparse.above k t := fun x hx => h x (by simp [hx])
    simp [Sparse.get, Nat.ne_of_lt hj, ih ht]

/-- Reading another key. -/
theorem Sparse.get_set_ne {j k : Nat} (v : β) (l : List (Nat × β)) (h : j ≠ k) :
    Sparse.get d j (Sparse.set d k v l) = Sparse.get d j l := by
  induction l with
  | nil => unfold Sparse.set Sparse.cons; split <;> simp [Sparse.get, h]
  | cons e t ih =>
    obtain ⟨i, u⟩ := e
    unfold Sparse.set Sparse.cons
    split
    · split <;> simp [Sparse.get, h]
    · split
      · rename_i hki; subst hki; split <;> simp [Sparse.get, h]
      · simp [Sparse.get, ih]

/-- Reading the key just written. -/
theorem Sparse.get_set_self (k : Nat) (v : β) (l : List (Nat × β)) (h : Sparse.wf d l = true) :
    Sparse.get d k (Sparse.set d k v l) = v := by
  induction l with
  | nil =>
    unfold Sparse.set Sparse.cons
    split
    · simp_all [Sparse.get]
    · simp [Sparse.get]
  | cons e t ih =>
    obtain ⟨i, u⟩ := e
    obtain ⟨_, ha, ht⟩ := (Sparse.wf_cons d).1 h
    unfold Sparse.set Sparse.cons
    split
    · rename_i hki
      split
      · rename_i hv
        rw [Sparse.get_above d (fun x hx => ?_), hv]
        rcases List.mem_cons.1 hx with rfl | hx
        · exact hki
        · exact lt_trans hki (ha x hx)
      · simp [Sparse.get]
    · split
      · rename_i hki; subst hki
        split
        · rename_i hv; rw [Sparse.get_above d ha, hv]
        · simp [Sparse.get]
      · rename_i hne; simp [Sparse.get, hne, ih ht]

/-- Dropping entries keeps the canonical form. -/
theorem Sparse.wf_filter (p : Nat × β → Bool) {l : List (Nat × β)} (h : Sparse.wf d l = true) :
    Sparse.wf d (l.filter p) = true := by
  induction l with
  | nil => rfl
  | cons e t ih =>
    obtain ⟨hv, ha, ht⟩ := (Sparse.wf_cons d).1 h
    rw [List.filter_cons]
    split
    · exact (Sparse.wf_cons d).2 ⟨hv, fun x hx => ha x (List.mem_of_mem_filter hx), ih ht⟩
    · exact ih ht

omit [DecidableEq β] in
/-- A key whose entry is not dropped reads as before. -/
theorem Sparse.get_filter (p : Nat → Bool) {k : Nat} (hk : p k = true) (l : List (Nat × β)) :
    Sparse.get d k (l.filter fun e => p e.1) = Sparse.get d k l := by
  induction l with
  | nil => rfl
  | cons e t ih =>
    rw [List.filter_cons]
    by_cases he : k = e.1
    · simp [Sparse.get, ← he, hk]
    · split <;> simp [Sparse.get, he, ih]

/-- Writing keeps the keys above a bound. -/
theorem Sparse.above_set {b k : Nat} (v : β) {l : List (Nat × β)} (hb : b < k) (h : Sparse.above b l) :
    Sparse.above b (Sparse.set d k v l) := by
  induction l with
  | nil => unfold Sparse.set Sparse.cons; split <;> simp_all [Sparse.above]
  | cons e t ih =>
    obtain ⟨i, u⟩ := e
    have hi : b < i := h (i, u) (by simp)
    have ht : Sparse.above b t := fun x hx => h x (by simp [hx])
    unfold Sparse.set Sparse.cons
    split
    · split <;> intro x hx <;> simp at hx <;> rcases hx with rfl | hx <;> first | exact hb | exact hi | skip
      · exact ht x hx
      · rcases hx with rfl | hx
        · exact hi
        · exact ht x hx
    · split
      · split
        · exact ht
        · intro x hx; simp at hx; rcases hx with rfl | hx
          · exact hb
          · exact ht x hx
      · intro x hx; simp at hx; rcases hx with rfl | hx
        · exact hi
        · exact ih ht x hx

/-- A write keeps the canonical form. -/
theorem Sparse.wf_set (k : Nat) (v : β) {l : List (Nat × β)} (h : Sparse.wf d l = true) :
    Sparse.wf d (Sparse.set d k v l) = true := by
  induction l with
  | nil =>
    unfold Sparse.set Sparse.cons
    split
    · rfl
    · rename_i hv; exact (Sparse.wf_cons d).2 ⟨hv, by simp [Sparse.above], rfl⟩
  | cons e t ih =>
    obtain ⟨i, u⟩ := e
    obtain ⟨hu, ha, ht⟩ := (Sparse.wf_cons d).1 h
    unfold Sparse.set Sparse.cons
    split
    · rename_i hki
      split
      · exact h
      · rename_i hv
        refine (Sparse.wf_cons d).2 ⟨hv, fun x hx => ?_, h⟩
        rcases List.mem_cons.1 hx with rfl | hx
        · exact hki
        · exact lt_trans hki (ha x hx)
    · rename_i hlt
      split
      · rename_i hki; subst hki
        split
        · exact ht
        · rename_i hv; exact (Sparse.wf_cons d).2 ⟨hv, ha, ht⟩
      · rename_i hne
        exact (Sparse.wf_cons d).2 ⟨hu, Sparse.above_set d v (by omega) ha, ih ht⟩

/-! ### Memory -/

variable (s : State)

theorem State.memByte_setMemByte_ne {j k : Nat} (b : Byte) (h : j ≠ k) : (s.setMemByte k b).memByte j = s.memByte j :=
  Sparse.get_set_ne memDefault b s.mem h

theorem State.memByte_setMemByte_self (k : Nat) (b : Byte) (h : Memory.wf s.mem = true) : (s.setMemByte k b).memByte k = b :=
  Sparse.get_set_self memDefault k b s.mem h

theorem Memory.wf_setMemByte (k : Nat) (b : Byte) (h : Memory.wf s.mem = true) : Memory.wf (s.setMemByte k b).mem = true :=
  Sparse.wf_set memDefault k b h

theorem Memory.wf_setMemBytes (k : Nat) (bs : List Byte) (h : Memory.wf s.mem = true) :
    Memory.wf (s.setMemBytes k bs).mem = true := by
  induction bs generalizing s k with
  | nil => exact h
  | cons b bs ih => exact ih _ _ (Memory.wf_setMemByte s k b h)

/-- A byte outside the written range reads as before. -/
theorem State.memByte_setMemBytes_out (k j : Nat) (bs : List Byte) (h : j < k ∨ k + bs.length ≤ j) :
    (s.setMemBytes k bs).memByte j = s.memByte j := by
  induction bs generalizing s k with
  | nil => rfl
  | cons b bs ih =>
    simp only [List.length_cons] at h
    rw [State.setMemBytes, ih _ _ (by omega), State.memByte_setMemByte_ne s b (by omega)]

/-- A byte inside the written range reads the byte written. -/
theorem State.memByte_setMemBytes_in (k i : Nat) (bs : List Byte) (h : Memory.wf s.mem = true) (hi : i < bs.length) :
    (s.setMemBytes k bs).memByte (k + i) = bs[i] := by
  induction bs generalizing s k i with
  | nil => simp at hi
  | cons b bs ih =>
    cases i with
    | zero =>
      rw [State.setMemBytes, Nat.add_zero, State.memByte_setMemBytes_out _ _ _ _ (by omega)]
      exact State.memByte_setMemByte_self s k b h
    | succ i =>
      have := ih (s.setMemByte k b) (k + 1) i (Memory.wf_setMemByte s k b h) (by simpa using hi)
      simpa [State.setMemBytes, Nat.add_assoc, Nat.add_comm 1 i] using this

/-- Writing memory cells changes nothing else. -/
theorem State.setMemBytes_eq (k : Nat) (bs : List Byte) : s.setMemBytes k bs = { s with mem := (s.setMemBytes k bs).mem } := by
  induction bs generalizing s k with
  | nil => rfl
  | cons b bs ih => rw [State.setMemBytes, ih]; rfl

/-- The bytes just written are read back. -/
theorem State.memBytes_setMemBytes (k : Nat) (bs : List Byte) (h : Memory.wf s.mem = true) :
    (s.setMemBytes k bs).memBytes k bs.length = bs := by
  induction bs generalizing s k with
  | nil => rfl
  | cons b bs ih =>
    have h1 := ih (s.setMemByte k b) (k + 1) (Memory.wf_setMemByte s k b h)
    rw [State.setMemBytes, List.length_cons, State.memBytes, h1, State.memByte_setMemBytes_out _ _ _ _ (by omega),
      State.memByte_setMemByte_self s k b h]

end Sys2Proof.Machine
end

