-- ==== Sys2Proof/Laws/View.lean ====
section
/-! SUPPORT. What a device operation can change: the device part of the state alone. -/

namespace Sys2Proof.Machine

/-- The state without its device part: without device registers, device data, console, free values and the reset
request. -/
structure CoreView where
  params : Params
  gpr : Vector Word 32
  pc : Word
  pending : Option Word
  inDelaySlot : Bool
  hi : Word
  lo : Word
  llBit : Bool
  cp0 : Cp0
  tlb : Vector TlbEntry 32
  icache : List (Nat × CacheLine)
  dcache : List (Nat × CacheLine)
  drseg : Drseg
  ejtag : Ejtag
  stepped : Bool
  waiting : Bool
  powerMode : PowerMode
  nmiReq : Bool
  dintReq : Bool
  wbuf : List (Nat × List Byte)
  mem : List Host.Cell
  agenda : List Event
  between : List (List Event)

/-- The view of a state. -/
def State.view (s : State) : CoreView :=
  { params := s.params, gpr := s.gpr, pc := s.pc, pending := s.pending, inDelaySlot := s.inDelaySlot, hi := s.hi, lo := s.lo,
    llBit := s.llBit, cp0 := s.cp0, tlb := s.tlb, icache := s.icache, dcache := s.dcache, drseg := s.drseg, ejtag := s.ejtag,
    stepped := s.stepped, waiting := s.waiting, powerMode := s.powerMode, nmiReq := s.nmiReq, dintReq := s.dintReq,
    wbuf := s.wbuf, mem := s.mem, agenda := s.agenda,
    between := s.between }

/-- The device registers are in canonical form. -/
def IoOk (s : State) : Prop := Sparse.wf (ioReset s.params) s.io = true

/-- `t` comes from `s` by changes of the device part. -/
structure DevStep (s t : State) : Prop where
  view : t.view = s.view
  io : IoOk s → IoOk t

theorem DevStep.refl (s : State) : DevStep s s := ⟨rfl, id⟩

theorem DevStep.trans {s t u : State} (h : DevStep s t) (k : DevStep t u) : DevStep s u :=
  ⟨k.view.trans h.view, fun x => k.io (h.io x)⟩

theorem DevStep.ioSet {s t : State} {a : Nat} {v : Word} (h : DevStep s t) : DevStep s (t.ioSet a v) :=
  h.trans ⟨rfl, fun x => Sparse.wf_set _ _ _ x⟩

theorem DevStep.ioMod {s t : State} {a : Nat} {x c : Word} (h : DevStep s t) : DevStep s (t.ioMod a x c) := h.ioSet

theorem DevStep.dev {s t : State} {d : Devices} (h : DevStep s t) : DevStep s { t with dev := d } := h.trans ⟨rfl, id⟩

theorem DevStep.drawn {s t : State} {n : Nat} (h : DevStep s t) : DevStep s (t.drawn n) := h.trans ⟨rfl, id⟩

theorem DevStep.console {s t : State} {c : List Byte} (h : DevStep s t) : DevStep s { t with console := c } :=
  h.trans ⟨rfl, id⟩

theorem DevStep.resetReq {s t : State} {c : Option ResetCause} (h : DevStep s t) : DevStep s { t with resetReq := c } :=
  h.trans ⟨rfl, id⟩

theorem DevStep.ite {s a b : State} {c : Prop} [Decidable c] (ha : DevStep s a) (hb : DevStep s b) :
    DevStep s (if c then a else b) := by split <;> assumption

/-- A register access that reads leaves the core alone. -/
abbrev ReadStep (s : State) (r : Word × State) : Prop := DevStep s r.2

/-- A device operation answers with a device step or stops. -/
def Res.Dev {α : Type} (s : State) : Res α → Prop
  | .ok _ t => DevStep s t
  | .fault _ => True
  | .refused _ => True
  | _ => False

theorem ReadStep.mk {s t : State} {v : Word} (h : DevStep s t) : ReadStep s (v, t) := h

theorem Res.Dev.okI {α : Type} {s t : State} {a : α} (h : DevStep s t) : Res.Dev s (.ok a t) := h

theorem Res.Dev.refusedI {α : Type} {s : State} {r : Refusal} : Res.Dev s (.refused r : Res α) := True.intro

end Sys2Proof.Machine
end

