-- ==== Sys2Proof/Laws/Devices.lean ====
section
/-! SUPPORT. Every operation of a device is a step of the device part alone. One lemma per operation. -/

set_option linter.unreachableTactic false
set_option linter.unusedTactic false

namespace Sys2Proof.Machine

/-! ### Levels -/

theorem State.setUart_dev {s t : State} {u : BitVec 2} {v : Uart} (h : DevStep s t) : DevStep s (State.setUart t u v) := by
  unfold State.setUart
  try dsimp only
  with_reducible repeat' first | exact h | apply DevStep.ioMod | apply DevStep.ioSet | apply DevStep.drawn | split | apply DevStep.dev

theorem ioResetAll_dev {s t : State} {l : List Nat} (h : DevStep s t) : DevStep s (ioResetAll t l) := by
  induction l generalizing t with
  | nil => exact h
  | cons a as ih => exact ih h.ioSet

/-! ### DevPlatform -/

theorem plainWrite_dev {s t : State} {a : Nat} {mask v : Word} (h : DevStep s t) : DevStep s (plainWrite a mask v t) := by
  unfold plainWrite
  try dsimp only
  with_reducible repeat' first | exact h | apply DevStep.ioMod | apply DevStep.ioSet | apply DevStep.drawn | split

theorem andWrite_dev {s t : State} {a : Nat} {mask clear v : Word} (h : DevStep s t) : DevStep s (andWrite a mask clear v t) := by
  unfold andWrite
  try dsimp only
  with_reducible repeat' first | exact h | apply DevStep.ioMod | apply DevStep.ioSet | apply DevStep.drawn | split

theorem plainRead_dev {s t : State} {a : Nat} (h : DevStep s t) : ReadStep s (plainRead a t) := by
  unfold plainRead
  try dsimp only
  with_reducible repeat' first | exact h | apply DevStep.ioMod | apply DevStep.ioSet | apply DevStep.drawn | split | apply ReadStep.mk

theorem freeRead_dev {s t : State} (h : DevStep s t) : ReadStep s (freeRead t) := by
  unfold freeRead
  try dsimp only
  with_reducible repeat' first | exact h | apply DevStep.ioMod | apply DevStep.ioSet | apply DevStep.drawn | split | apply ReadStep.mk

theorem writeCpccr0_dev {s t : State} {v : Word} (h : DevStep s t) : Res.Dev s (writeCpccr0 v t) := by
  unfold writeCpccr0
  try dsimp only
  with_reducible repeat' first | exact h | apply DevStep.ioMod | apply DevStep.ioSet | apply DevStep.drawn | apply plainWrite_dev | apply Res.Dev.okI | exact Res.Dev.refusedI | split

theorem writeCppcr_dev {s t : State} {v : Word} (h : DevStep s t) : Res.Dev s (writeCppcr v t) := by
  unfold writeCppcr
  try dsimp only
  with_reducible repeat' first | exact h | apply DevStep.ioMod | apply DevStep.ioSet | apply DevStep.drawn | apply Res.Dev.okI | exact Res.Dev.refusedI | split

theorem writeCpm_dev {s t : State} {a : Nat} {mask v : Word} (h : DevStep s t) : Res.Dev s (writeCpm a mask v t) := by
  unfold writeCpm
  try dsimp only
  with_reducible repeat' first | exact h | apply DevStep.ioMod | apply DevStep.ioSet | apply DevStep.drawn | apply plainWrite_dev | apply andWrite_dev | apply writeCpccr0_dev | apply writeCppcr_dev | apply Res.Dev.okI | exact Res.Dev.refusedI | split

theorem pllLock_dev {s t : State} (h : DevStep s t) : DevStep s (pllLock t) := by
  unfold pllLock
  try dsimp only
  with_reducible repeat' first | exact h | apply DevStep.ioMod | apply DevStep.ioSet | apply DevStep.drawn | split

theorem readIntc_dev {s t : State} {a : Nat} (h : DevStep s t) : ReadStep s (readIntc a t) := by
  unfold readIntc
  try dsimp only
  with_reducible repeat' first | exact h | apply DevStep.ioMod | apply DevStep.ioSet | apply DevStep.drawn | apply plainRead_dev | split | apply ReadStep.mk

theorem writeIntc_dev {s t : State} {a : Nat} {mask v : Word} (h : DevStep s t) : DevStep s (writeIntc a mask v t) := by
  unfold writeIntc
  try dsimp only
  with_reducible repeat' first | exact h | apply DevStep.ioMod | apply DevStep.ioSet | apply DevStep.drawn | apply plainWrite_dev | split

theorem readOst_dev {s t : State} {a : Nat} (h : DevStep s t) : ReadStep s (readOst a t) := by
  unfold readOst
  try dsimp only
  with_reducible repeat' first | exact h | apply DevStep.ioMod | apply DevStep.ioSet | apply DevStep.drawn | apply plainRead_dev | split | apply ReadStep.mk

theorem writeOst_dev {s t : State} {a : Nat} {mask v : Word} (h : DevStep s t) : Res.Dev s (writeOst a mask v t) := by
  unfold writeOst
  try dsimp only
  with_reducible repeat' first | exact h | apply DevStep.ioMod | apply DevStep.ioSet | apply DevStep.drawn | apply plainWrite_dev | apply andWrite_dev | apply Res.Dev.okI | exact Res.Dev.refusedI | split

theorem ostTick_dev {s t : State} {n : BitVec 2} (h : DevStep s t) : DevStep s (ostTick n t) := by
  unfold ostTick
  try dsimp only
  with_reducible repeat' first | exact h | apply DevStep.ioMod | apply DevStep.ioSet | apply DevStep.drawn | split

theorem ostSync_dev {s t : State} {n : BitVec 2} (h : DevStep s t) : DevStep s (ostSync n t) := by
  unfold ostSync
  try dsimp only
  with_reducible repeat' first | exact h | apply DevStep.ioMod | apply DevStep.ioSet | apply DevStep.drawn | split

theorem rtcAlarm_dev {s r t : State} (h : DevStep s t) : DevStep s (rtcAlarm r t) := by
  unfold rtcAlarm
  with_reducible repeat' first | exact h | apply DevStep.ioMod | split

theorem writeRtcReg_dev {s t : State} {a : Nat} {mask v : Word} (h : DevStep s t) : DevStep s (writeRtcReg a mask v t) := by
  unfold writeRtcReg
  try dsimp only
  with_reducible repeat' first | exact h | apply DevStep.ioMod | apply DevStep.ioSet | apply DevStep.drawn | apply plainWrite_dev | apply andWrite_dev | split | apply DevStep.dev

theorem writeRtc_dev {s t : State} {a : Nat} {mask v : Word} (h : DevStep s t) : DevStep s (writeRtc a mask v t) :=
  rtcAlarm_dev (writeRtcReg_dev h)

theorem rtcLand_dev {s t : State} (h : DevStep s t) : DevStep s (rtcLand t) := by
  unfold rtcLand
  try dsimp only
  with_reducible repeat' first | exact h | apply rtcAlarm_dev | apply DevStep.ioMod | apply DevStep.ioSet | apply DevStep.drawn | split | apply DevStep.dev

theorem rtcTick_dev {s t : State} (h : DevStep s t) : DevStep s (rtcTick t) := by
  unfold rtcTick
  try dsimp only
  with_reducible repeat' first | exact h | apply DevStep.ioMod | apply DevStep.ioSet | apply DevStep.drawn | apply rtcLand_dev | split

theorem writeWdt_dev {s t : State} {a : Nat} {mask v : Word} (h : DevStep s t) : DevStep s (writeWdt a mask v t) := by
  unfold writeWdt
  try dsimp only
  with_reducible repeat' first | exact h | apply DevStep.ioMod | apply DevStep.ioSet | apply DevStep.drawn | apply plainWrite_dev | split

theorem wdtTick_dev {s t : State} (h : DevStep s t) : DevStep s (wdtTick t) := by
  unfold wdtTick
  try dsimp only
  with_reducible repeat' first | exact h | apply DevStep.ioMod | apply DevStep.ioSet | apply DevStep.drawn | split | apply DevStep.resetReq

theorem gpioMissing_dev {s t : State} {mask v : Word} (h : DevStep s t) : ReadStep s (gpioMissing mask v t) := by
  unfold gpioMissing
  try dsimp only
  with_reducible repeat' first | exact h | apply DevStep.ioMod | apply DevStep.ioSet | apply DevStep.drawn | split | apply ReadStep.mk

theorem readGpio_dev {s t : State} {a : Nat} {mask : Word} (h : DevStep s t) : ReadStep s (readGpio a mask t) := by
  unfold readGpio
  try dsimp only
  with_reducible repeat' first | exact h | apply DevStep.ioMod | apply DevStep.ioSet | apply DevStep.drawn | apply gpioMissing_dev | split | apply ReadStep.mk

theorem wakePin_dev {s t : State} {g : BitVec 2} {n : BitVec 5} {rising : Bool} (h : DevStep s t) : DevStep s (wakePin g n rising t) := by
  unfold wakePin
  try dsimp only
  with_reducible repeat' first | exact h | apply DevStep.ioMod | apply DevStep.ioSet | apply DevStep.drawn | split | apply DevStep.resetReq

theorem ctsChanged_dev {s t : State} (h : DevStep s t) : DevStep s (ctsChanged t) := by
  unfold ctsChanged
  try dsimp only
  with_reducible repeat' first | exact h | apply State.setUart_dev | split

theorem dreqEdge_dev {s t : State} {n : Nat} {rising : Bool} (h : DevStep s t) : DevStep s (dreqEdge n rising t) := by
  unfold dreqEdge
  try dsimp only
  with_reducible repeat' first | exact h | split | apply DevStep.dev

theorem pinToBlock_dev {s t : State} {g : BitVec 2} {n : BitVec 5} {level : Bool} (h : DevStep s t) : DevStep s (pinToBlock g n level t) := by
  unfold pinToBlock
  with_reducible repeat' first | exact h | apply ctsChanged_dev | apply dreqEdge_dev | split

theorem State.pinRead_dev {s t : State} {g : BitVec 2} {n : BitVec 5} (h : DevStep s t) : DevStep s (State.pinRead t g n) := by
  unfold State.pinRead
  with_reducible repeat' first | exact h | apply DevStep.drawn | split

theorem pinChanged_dev {s t : State} {g : BitVec 2} {n : BitVec 5} {before after : Bool} (h : DevStep s t) : DevStep s (pinChanged g n before after t) := by
  unfold pinChanged
  try dsimp only
  with_reducible repeat' first | exact h | apply DevStep.ioMod | apply DevStep.ioSet | apply DevStep.drawn | apply pinToBlock_dev | apply wakePin_dev | split

theorem pinsChanged_dev {s t : State} {g : BitVec 2} {before after : Word} {k : Nat} (h : DevStep s t) :
    DevStep s (pinsChanged g before after k t) := by
  induction k generalizing t with
  | zero => exact h
  | succ k ih => exact ih (pinChanged_dev h)

theorem repin_dev {s t u : State} {g : BitVec 2} (h : DevStep s t) : DevStep s (repin g u t) := pinsChanged_dev h

theorem repinAll_dev {s t u : State} (h : DevStep s t) : DevStep s (repinAll u t) :=
  repin_dev (repin_dev (repin_dev (repin_dev h)))

theorem writeGpio_dev {s t : State} {a : Nat} {mask v : Word} (h : DevStep s t) : DevStep s (writeGpio a mask v t) := by
  unfold writeGpio
  try dsimp only
  with_reducible repeat' first | exact h | apply DevStep.ioMod | apply DevStep.ioSet | apply DevStep.drawn | apply plainWrite_dev | apply repin_dev | split

theorem writeCpmPins_dev {s t : State} {a : Nat} {mask v : Word} (h : DevStep s t) : Res.Dev s (writeCpmPins a mask v t) := by
  have hw := writeCpm_dev (a := a) (mask := mask) (v := v) h
  unfold writeCpmPins
  cases hr : writeCpm a mask v t with
  | ok x u =>
    rw [hr] at hw
    show DevStep s (if a = Adr.HCR then repinAll t u else u)
    split; exacts [repinAll_dev hw, hw]
  | refused r => exact True.intro
  | fault r => exact True.intro
  | _ => rw [hr] at hw; exact hw.elim

theorem State.setPins_dev {s t : State} {g : BitVec 2} {driven level : Word} (h : DevStep s t) : DevStep s (State.setPins t g driven level) := by
  unfold State.setPins
  try dsimp only
  with_reducible repeat' first | exact h | apply DevStep.ioMod | apply DevStep.ioSet | apply DevStep.drawn | split | apply DevStep.dev

theorem gpioHost_dev {s t : State} {g : BitVec 2} {n : BitVec 5} {level : Option Bool} (h : DevStep s t) : DevStep s (gpioHost g n level t) := by
  unfold gpioHost
  try dsimp only
  with_reducible repeat' first | exact h | apply DevStep.ioMod | apply DevStep.ioSet | apply DevStep.drawn | apply pinChanged_dev | apply State.setPins_dev | split

theorem hibernateGroup_dev {s t : State} {g : BitVec 2} {hgsr : Nat} (h : DevStep s t) : DevStep s (hibernateGroup g hgsr t) := by
  unfold hibernateGroup
  try dsimp only
  with_reducible repeat' first | exact h | apply DevStep.ioMod | apply DevStep.ioSet | apply DevStep.drawn | split | apply DevStep.dev

theorem hibernatePins_dev {s t : State} (h : DevStep s t) : DevStep s (hibernatePins t) := by
  unfold hibernatePins
  try dsimp only
  with_reducible repeat' first | exact h | apply DevStep.ioMod | apply DevStep.ioSet | apply DevStep.drawn | apply hibernateGroup_dev | split

/-! ### DevMemory -/

theorem refreshMatch_dev {s t : State} (h : DevStep s t) : DevStep s (refreshMatch t) := by
  unfold refreshMatch
  try dsimp only
  with_reducible repeat' first | exact h | apply DevStep.ioMod | apply DevStep.ioSet | apply DevStep.drawn | split

theorem writeEmc_dev {s t : State} {a : Nat} {mask v : Word} (h : DevStep s t) : DevStep s (writeEmc a mask v t) := by
  unfold writeEmc
  try dsimp only
  with_reducible repeat' first | exact h | apply DevStep.ioMod | apply DevStep.ioSet | apply DevStep.drawn | apply plainWrite_dev | apply andWrite_dev | apply refreshMatch_dev | split

theorem refreshTick_dev {s t : State} (h : DevStep s t) : DevStep s (refreshTick t) := by
  unfold refreshTick
  try dsimp only
  with_reducible repeat' first | exact h | apply DevStep.ioMod | apply DevStep.ioSet | apply DevStep.drawn | apply refreshMatch_dev | split

theorem nandReady_dev {s t : State} {ready : Bool} (h : DevStep s t) : DevStep s (nandReady ready t) := gpioHost_dev h

theorem readEmc_dev {s t : State} {a : Nat} (h : DevStep s t) : ReadStep s (readEmc a t) := by
  unfold readEmc
  with_reducible repeat' first | exact h | apply plainRead_dev | apply State.pinRead_dev | split | apply ReadStep.mk

theorem nandEcc_dev {s t : State} (h : DevStep s t) : DevStep s (nandEcc t) := by
  unfold nandEcc
  try dsimp only
  with_reducible repeat' first | exact h | apply DevStep.ioMod | apply DevStep.ioSet | apply DevStep.drawn | split

theorem State.restartDma_dev {s t : State} {n : Nat} (h : DevStep s t) : DevStep s (State.restartDma t n) := by
  unfold State.restartDma
  try dsimp only
  with_reducible repeat' first | exact h | apply DevStep.ioMod | apply DevStep.ioSet | apply DevStep.drawn | split | apply DevStep.dev

theorem readDmac_dev {s t : State} {a : Nat} (h : DevStep s t) : ReadStep s (readDmac a t) := by
  unfold readDmac
  try dsimp only
  with_reducible repeat' first | exact h | apply DevStep.ioMod | apply DevStep.ioSet | apply DevStep.drawn | apply plainRead_dev | split | apply ReadStep.mk

theorem writeDmac_dev {s t : State} {a : Nat} {mask v : Word} (h : DevStep s t) : Res.Dev s (writeDmac a mask v t) := by
  unfold writeDmac
  try dsimp only
  with_reducible repeat' first | exact h | apply DevStep.ioMod | apply DevStep.ioSet | apply DevStep.drawn | apply plainWrite_dev | apply andWrite_dev | apply State.restartDma_dev | apply Res.Dev.okI | exact Res.Dev.refusedI | split

theorem dreqPin_dev {s t : State} {ch : BitVec 1} {level : Bool} (h : DevStep s t) : DevStep s (dreqPin ch level t) := by
  unfold dreqPin
  with_reducible repeat' first | exact h | apply gpioHost_dev | apply dreqEdge_dev | split | apply DevStep.dev

theorem dmaHalt_dev {s t : State} {ch : BitVec 3} (h : DevStep s t) : DevStep s (dmaHalt ch t) := by
  unfold dmaHalt
  try dsimp only
  with_reducible repeat' first | exact h | apply DevStep.ioMod | apply DevStep.ioSet | apply DevStep.drawn | split

theorem dmaDeviceError_dev {s t : State} {rt : Nat} (h : DevStep s t) : DevStep s (dmaDeviceError rt t) := by
  unfold dmaDeviceError
  with_reducible repeat' first | exact h | apply dmaHalt_dev | apply DevStep.ite | simp only [List.foldl]

/-! ### DevSerial -/

theorem freeField_dev {s t : State} {n : Nat} (h : DevStep s t) : ReadStep s (freeField n t) := by
  unfold freeField
  try dsimp only
  with_reducible repeat' first | exact h | apply DevStep.ioMod | apply DevStep.ioSet | apply DevStep.drawn | split | apply ReadStep.mk

theorem readUrbr_dev {s t : State} {n : BitVec 2} (h : DevStep s t) : ReadStep s (readUrbr n t) := by
  unfold readUrbr
  try dsimp only
  with_reducible repeat' first | exact h | apply DevStep.ioMod | apply DevStep.ioSet | apply DevStep.drawn | apply State.setUart_dev | apply freeField_dev | split | apply ReadStep.mk

theorem readUart_dev {s t : State} {n : BitVec 2} {off : Nat} (h : DevStep s t) : ReadStep s (readUart n off t) := by
  unfold readUart
  try dsimp only
  with_reducible repeat' first | exact h | apply DevStep.ioMod | apply DevStep.ioSet | apply DevStep.drawn | apply State.setUart_dev | apply State.pinRead_dev | apply readUrbr_dev | split | apply ReadStep.mk

theorem writeUart_dev {s t : State} {n : BitVec 2} {off : Nat} {v : Word} (h : DevStep s t) : DevStep s (writeUart n off v t) := by
  unfold writeUart
  try dsimp only
  with_reducible repeat' first | exact h | apply DevStep.ioMod | apply DevStep.ioSet | apply DevStep.drawn | apply State.setUart_dev | split

theorem uartTxStart_dev {s t : State} {n : BitVec 2} (h : DevStep s t) : DevStep s (uartTxStart n t) := by
  unfold uartTxStart
  try dsimp only
  with_reducible repeat' first | exact h | apply DevStep.ioMod | apply DevStep.ioSet | apply DevStep.drawn | apply State.setUart_dev | split

theorem uartTxDone_dev {s t : State} {n : BitVec 2} (h : DevStep s t) : DevStep s (uartTxDone n t) := by
  unfold uartTxDone
  try dsimp only
  with_reducible repeat' first | exact h | apply DevStep.ioMod | apply DevStep.ioSet | apply DevStep.drawn | apply State.setUart_dev | split | apply DevStep.console

theorem uartDmaError_dev {s t : State} {n : BitVec 2} {e : RxEntry} (h : DevStep s t) : DevStep s (uartDmaError n e t) := by
  unfold uartDmaError
  try dsimp only
  with_reducible repeat' first | exact h | apply DevStep.ioMod | apply DevStep.ioSet | apply DevStep.drawn | apply dmaDeviceError_dev | split

theorem uartRxChar_dev {s t : State} {n : BitVec 2} {e : RxEntry} (h : DevStep s t) : DevStep s (uartRxChar n e t) := by
  unfold uartRxChar
  try dsimp only
  with_reducible repeat' first | exact h | apply DevStep.ioMod | apply DevStep.ioSet | apply DevStep.drawn | apply State.setUart_dev | apply uartDmaError_dev | split

theorem uartRxIdle_dev {s t : State} {n : BitVec 2} (h : DevStep s t) : DevStep s (uartRxIdle n t) := by
  unfold uartRxIdle
  try dsimp only
  with_reducible repeat' first | exact h | apply DevStep.ioMod | apply DevStep.ioSet | apply DevStep.drawn | apply State.setUart_dev | split

theorem uartCts_dev {s t : State} {n : BitVec 2} {level : Bool} (h : DevStep s t) : DevStep s (uartCts n level t) := by
  unfold uartCts
  with_reducible repeat' first | exact h | apply gpioHost_dev | split

theorem pwmTick_dev {s t : State} {c : BitVec 1} (h : DevStep s t) : DevStep s (pwmTick c t) := by
  unfold pwmTick
  try dsimp only
  with_reducible repeat' first | exact h | apply DevStep.ioMod | apply DevStep.ioSet | apply DevStep.drawn | split | apply DevStep.dev

theorem State.setI2c_dev {s t : State} {d : I2c} (h : DevStep s t) : DevStep s (State.setI2c t d) := by
  unfold State.setI2c
  try dsimp only
  with_reducible repeat' first | exact h | apply DevStep.ioMod | apply DevStep.ioSet | apply DevStep.drawn | split | apply DevStep.dev

theorem readI2c_dev {s t : State} {a : Nat} (h : DevStep s t) : ReadStep s (readI2c a t) := by
  unfold readI2c
  try dsimp only
  with_reducible repeat' first | exact h | apply DevStep.ioMod | apply DevStep.ioSet | apply DevStep.drawn | apply plainRead_dev | split | apply ReadStep.mk

theorem writeI2c_dev {s t : State} {a : Nat} {mask v : Word} (h : DevStep s t) : DevStep s (writeI2c a mask v t) := by
  unfold writeI2c
  try dsimp only
  with_reducible repeat' first | exact h | apply DevStep.ioMod | apply DevStep.ioSet | apply DevStep.drawn | apply plainWrite_dev | apply State.setI2c_dev | split

theorem i2cStart_dev {s t : State} (h : DevStep s t) : DevStep s (i2cStart t) := by
  unfold i2cStart
  try dsimp only
  with_reducible repeat' first | exact h | apply DevStep.ioMod | apply DevStep.ioSet | apply DevStep.drawn | apply State.setI2c_dev | split

theorem i2cTake_dev {s t : State} (h : DevStep s t) : DevStep s (i2cTake t) := by
  unfold i2cTake
  try dsimp only
  with_reducible repeat' first | exact h | apply DevStep.ioMod | apply DevStep.ioSet | apply DevStep.drawn | apply State.setI2c_dev | split

theorem i2cSent_dev {s t : State} {nack : Bool} (h : DevStep s t) : DevStep s (i2cSent nack t) := by
  unfold i2cSent
  try dsimp only
  with_reducible repeat' first | exact h | apply DevStep.ioMod | apply DevStep.ioSet | apply DevStep.drawn | apply State.setI2c_dev | split

theorem i2cReceived_dev {s t : State} {b : Byte} (h : DevStep s t) : DevStep s (i2cReceived b t) := by
  unfold i2cReceived
  try dsimp only
  with_reducible repeat' first | exact h | apply DevStep.ioMod | apply DevStep.ioSet | apply DevStep.drawn | split

theorem i2cStop_dev {s t : State} (h : DevStep s t) : DevStep s (i2cStop t) := by
  unfold i2cStop
  try dsimp only
  with_reducible repeat' first | exact h | apply DevStep.ioMod | apply DevStep.ioSet | apply DevStep.drawn | apply State.setI2c_dev | split

theorem State.setSsi_dev {s t : State} {d : Ssi} (h : DevStep s t) : DevStep s (State.setSsi t d) := by
  unfold State.setSsi
  try dsimp only
  with_reducible repeat' first | exact h | apply DevStep.ioMod | apply DevStep.ioSet | apply DevStep.drawn | split | apply DevStep.dev

theorem readSsi_dev {s t : State} {a : Nat} (h : DevStep s t) : ReadStep s (readSsi a t) := by
  unfold readSsi
  try dsimp only
  with_reducible repeat' first | exact h | apply DevStep.ioMod | apply DevStep.ioSet | apply DevStep.drawn | apply plainRead_dev | apply freeField_dev | apply State.setSsi_dev | split | apply ReadStep.mk

theorem ssiPush_dev {s t : State} {v : Word} (h : DevStep s t) : DevStep s (ssiPush v t) := by
  unfold ssiPush
  try dsimp only
  with_reducible repeat' first | exact h | apply DevStep.ioMod | apply DevStep.ioSet | apply DevStep.drawn | apply State.setSsi_dev | split

theorem writeSsi_dev {s t : State} {a : Nat} {mask v : Word} (h : DevStep s t) : DevStep s (writeSsi a mask v t) := by
  unfold writeSsi
  try dsimp only
  with_reducible repeat' first | exact h | apply DevStep.ioMod | apply DevStep.ioSet | apply DevStep.drawn | apply plainWrite_dev | apply andWrite_dev | apply State.setSsi_dev | apply ssiPush_dev | split

theorem ssiReceive_dev {s t : State} {c : BitVec 17} (h : DevStep s t) : DevStep s (ssiReceive c t) := by
  unfold ssiReceive
  try dsimp only
  with_reducible repeat' first | exact h | apply DevStep.ioMod | apply DevStep.ioSet | apply DevStep.drawn | apply State.setSsi_dev | split

theorem ssiShift_dev {s t : State} {out : BitVec 17} {rest : List (BitVec 17)} {c : BitVec 17} (h : DevStep s t) : DevStep s (ssiShift out rest c t) := by
  unfold ssiShift
  try dsimp only
  with_reducible repeat' first | exact h | apply DevStep.ioMod | apply DevStep.ioSet | apply DevStep.drawn | apply State.setSsi_dev | apply ssiReceive_dev | split

theorem ssiStarve_dev {s t : State} {c : BitVec 17} (h : DevStep s t) : DevStep s (ssiStarve c t) := by
  unfold ssiStarve
  try dsimp only
  with_reducible repeat' first | exact h | apply DevStep.ioMod | apply DevStep.ioSet | apply DevStep.drawn | apply State.setSsi_dev | apply ssiReceive_dev | split

theorem ssiTransfer_dev {s t : State} {c : BitVec 17} (h : DevStep s t) : DevStep s (ssiTransfer c t) := by
  unfold ssiTransfer
  try dsimp only
  with_reducible repeat' first | exact h | apply DevStep.ioMod | apply DevStep.ioSet | apply DevStep.drawn | apply ssiShift_dev | apply ssiStarve_dev | split

theorem ssiIdle_dev {s t : State} {interval : Bool} (h : DevStep s t) : DevStep s (ssiIdle interval t) := by
  unfold ssiIdle
  try dsimp only
  with_reducible repeat' first | exact h | apply DevStep.ioMod | apply DevStep.ioSet | apply DevStep.drawn | apply State.setSsi_dev | split

theorem State.setScc_dev {s t : State} {d : Scc} (h : DevStep s t) : DevStep s (State.setScc t d) := by
  unfold State.setScc
  try dsimp only
  with_reducible repeat' first | exact h | apply DevStep.ioMod | apply DevStep.ioSet | apply DevStep.drawn | split | apply DevStep.dev

theorem readScc_dev {s t : State} {a : Nat} (h : DevStep s t) : ReadStep s (readScc a t) := by
  unfold readScc
  try dsimp only
  with_reducible repeat' first | exact h | apply DevStep.ioMod | apply DevStep.ioSet | apply DevStep.drawn | apply plainRead_dev | apply freeField_dev | apply State.setScc_dev | split | apply ReadStep.mk

theorem writeScc_dev {s t : State} {a : Nat} {mask v : Word} (h : DevStep s t) : DevStep s (writeScc a mask v t) := by
  unfold writeScc
  try dsimp only
  with_reducible repeat' first | exact h | apply DevStep.ioMod | apply DevStep.ioSet | apply DevStep.drawn | apply plainWrite_dev | apply State.setScc_dev | split

theorem sccSend_dev {s t : State} (h : DevStep s t) : DevStep s (sccSend t) := by
  unfold sccSend
  try dsimp only
  with_reducible repeat' first | exact h | apply DevStep.ioMod | apply DevStep.ioSet | apply DevStep.drawn | apply State.setScc_dev | split

theorem sccReceive_dev {s t : State} {c : Byte} {parityError : Bool} (h : DevStep s t) : DevStep s (sccReceive c parityError t) := by
  unfold sccReceive
  try dsimp only
  with_reducible repeat' first | exact h | apply DevStep.ioMod | apply DevStep.ioSet | apply DevStep.drawn | apply State.setScc_dev | split

theorem sccStatus_dev {s t : State} {v : BitVec 16} (h : DevStep s t) : DevStep s (sccStatus v t) := by
  unfold sccStatus
  try dsimp only
  with_reducible repeat' first | exact h | apply DevStep.ioMod | apply DevStep.ioSet | apply DevStep.drawn | split

theorem sccEtu_dev {s t : State} (h : DevStep s t) : DevStep s (sccEtu t) := by
  unfold sccEtu
  try dsimp only
  with_reducible repeat' first | exact h | apply DevStep.ioMod | apply DevStep.ioSet | apply DevStep.drawn | apply State.setScc_dev | split

theorem State.setKbc_dev {s t : State} {d : Kbc} (h : DevStep s t) : DevStep s (State.setKbc t d) := by
  unfold State.setKbc
  try dsimp only
  with_reducible repeat' first | exact h | apply DevStep.ioMod | apply DevStep.ioSet | apply DevStep.drawn | split | apply DevStep.dev

theorem readKbc_dev {s t : State} {a : Nat} (h : DevStep s t) : ReadStep s (readKbc a t) := by
  unfold readKbc
  try dsimp only
  with_reducible repeat' first | exact h | apply DevStep.ioMod | apply DevStep.ioSet | apply DevStep.drawn | apply State.setKbc_dev | split | apply ReadStep.mk

theorem kbcCommand_dev {s t : State} {v : Byte} (h : DevStep s t) : DevStep s (kbcCommand v t) := by
  unfold kbcCommand
  try dsimp only
  with_reducible repeat' first | exact h | apply DevStep.ioMod | apply DevStep.ioSet | apply DevStep.drawn | apply State.setKbc_dev | split

theorem writeKbc_dev {s t : State} {a : Nat} {v : Word} (h : DevStep s t) : DevStep s (writeKbc a v t) := by
  unfold writeKbc
  try dsimp only
  with_reducible repeat' first | exact h | apply DevStep.ioMod | apply DevStep.ioSet | apply DevStep.drawn | apply State.setKbc_dev | apply kbcCommand_dev | split

theorem kbcReceive_dev {s t : State} {c : Byte} {per mouse : Bool} (h : DevStep s t) : DevStep s (kbcReceive c per mouse t) := by
  unfold kbcReceive
  try dsimp only
  with_reducible repeat' first | exact h | apply DevStep.ioMod | apply DevStep.ioSet | apply DevStep.drawn | apply State.setKbc_dev | split

theorem kbcRxTimeout_dev {s t : State} {mouse : Bool} (h : DevStep s t) : DevStep s (kbcRxTimeout mouse t) := by
  unfold kbcRxTimeout
  try dsimp only
  with_reducible repeat' first | exact h | apply DevStep.ioMod | apply DevStep.ioSet | apply DevStep.drawn | apply State.setKbc_dev | split

theorem kbcSent_dev {s t : State} (h : DevStep s t) : DevStep s (kbcSent t) := by
  unfold kbcSent
  try dsimp only
  with_reducible repeat' first | exact h | apply DevStep.ioMod | apply DevStep.ioSet | apply DevStep.drawn | apply State.setKbc_dev | split

theorem kbcTxTimeout_dev {s t : State} (h : DevStep s t) : DevStep s (kbcTxTimeout t) := by
  unfold kbcTxTimeout
  try dsimp only
  with_reducible repeat' first | exact h | apply DevStep.ioMod | apply DevStep.ioSet | apply DevStep.drawn | apply State.setKbc_dev | split

/-! ### DevMasters -/

theorem State.setUdc_dev {s t : State} {d : Udc} (h : DevStep s t) : DevStep s (State.setUdc t d) := by
  unfold State.setUdc
  try dsimp only
  with_reducible repeat' first | exact h | apply DevStep.ioMod | apply DevStep.ioSet | apply DevStep.drawn | split | apply DevStep.dev

theorem State.setUdcTx_dev {s t : State} {k : Nat} {x : UdcTx} (h : DevStep s t) : DevStep s (t.setUdcTx k x) :=
  State.setUdc_dev h

theorem writeTfifo_dev {s t : State} {k : Nat} {v : Word} (h : DevStep s t) : DevStep s (writeTfifo k v t) := by
  unfold writeTfifo
  try dsimp only
  with_reducible repeat' first | exact h | apply DevStep.ioMod | apply DevStep.ioSet | apply DevStep.drawn | apply State.setUdc_dev | apply State.setUdcTx_dev | split

theorem confirmTx_dev {s t : State} (h : DevStep s t) : DevStep s (confirmTx t) := by
  unfold confirmTx
  try dsimp only
  with_reducible repeat' first | exact h | apply DevStep.ioMod | apply DevStep.ioSet | apply DevStep.drawn | apply State.setUdc_dev | split

theorem readUdc_dev {s t : State} {a : Nat} (h : DevStep s t) : ReadStep s (readUdc a t) := by
  unfold readUdc
  try dsimp only
  with_reducible repeat' first | exact h | apply DevStep.ioMod | apply DevStep.ioSet | apply DevStep.drawn | apply plainRead_dev | apply freeRead_dev | apply State.setUdc_dev | split | apply ReadStep.mk

theorem writeUdc_dev {s t : State} {a : Nat} {mask v : Word} (h : DevStep s t) : DevStep s (writeUdc a mask v t) := by
  unfold writeUdc
  try dsimp only
  with_reducible repeat' first | exact h | apply DevStep.ioMod | apply DevStep.ioSet | apply DevStep.drawn | apply plainWrite_dev | apply State.setUdc_dev | apply State.setUdcTx_dev | apply confirmTx_dev | split

theorem udcIn_dev {s t : State} {e : BitVec 3} (h : DevStep s t) : DevStep s (udcIn e t) := by
  unfold udcIn
  try dsimp only
  with_reducible repeat' first | exact h | apply DevStep.ioMod | apply DevStep.ioSet | apply DevStep.drawn | apply State.setUdcTx_dev | split

theorem udcSetConfig_dev {s t : State} {cfg : BitVec 4} (h : DevStep s t) : DevStep s (udcSetConfig cfg t) := by
  unfold udcSetConfig
  try dsimp only
  with_reducible repeat' first | exact h | apply DevStep.ioMod | apply DevStep.ioSet | apply DevStep.drawn | split

theorem udcSetInterface_dev {s t : State} {intf alt : BitVec 4} (h : DevStep s t) : DevStep s (udcSetInterface intf alt t) := by
  unfold udcSetInterface
  try dsimp only
  with_reducible repeat' first | exact h | apply DevStep.ioMod | apply DevStep.ioSet | apply DevStep.drawn | split

theorem udcPush_dev {s t : State} {k : Nat} {setup : Bool} {pid : BitVec 4} {frame : BitVec 14} {bytes : List Byte} (h : DevStep s t) : DevStep s (udcPush k setup pid frame bytes t) := by
  unfold udcPush
  try dsimp only
  with_reducible repeat' first | exact h | apply DevStep.ioMod | apply DevStep.ioSet | apply DevStep.drawn | apply State.setUdc_dev | split

theorem udcSetup_dev {s t : State} {pid : BitVec 4} {frame : BitVec 14} {bytes : List Byte} (h : DevStep s t) : DevStep s (udcSetup pid frame bytes t) := by
  unfold udcSetup
  try dsimp only
  with_reducible repeat' first | exact h | apply DevStep.ioMod | apply DevStep.ioSet | apply DevStep.drawn | apply udcSetConfig_dev | apply udcSetInterface_dev | apply udcPush_dev | split

theorem udcOut_dev {s t : State} {e : BitVec 3} {setup : Bool} {pid : BitVec 4} {frame : BitVec 14} {bytes : List Byte} (h : DevStep s t) : DevStep s (udcOut e setup pid frame bytes t) := by
  unfold udcOut
  try dsimp only
  with_reducible repeat' first | exact h | apply DevStep.ioMod | apply DevStep.ioSet | apply DevStep.drawn | apply udcPush_dev | apply udcSetup_dev | split

theorem udcDevice_dev {s t : State} {i : BitVec 3} {frame : BitVec 14} (h : DevStep s t) : DevStep s (udcDevice i frame t) := by
  unfold udcDevice
  try dsimp only
  with_reducible repeat' first | exact h | apply DevStep.ioMod | apply DevStep.ioSet | apply DevStep.drawn | split

theorem State.setLcd_dev {s t : State} {c : BitVec 1} {d : LcdChannel} (h : DevStep s t) : DevStep s (State.setLcd t c d) := by
  unfold State.setLcd
  try dsimp only
  with_reducible repeat' first | exact h | apply DevStep.ioMod | apply DevStep.ioSet | apply DevStep.drawn | split | apply DevStep.dev

theorem State.setLcdEnds_dev {s t : State} {q n : Bool} (h : DevStep s t) : DevStep s (State.setLcdEnds t q n) := by
  unfold State.setLcdEnds
  try dsimp only
  with_reducible repeat' first | exact h | apply DevStep.ioMod | apply DevStep.ioSet | apply DevStep.drawn | split | apply DevStep.dev

theorem lcdNote_dev {s t : State} {v : Word} (h : DevStep s t) : DevStep s (lcdNote v t) := by
  unfold lcdNote
  try dsimp only
  with_reducible repeat' first | exact h | apply State.setLcdEnds_dev | split

theorem writeLcdCtrl_dev {s t : State} {mask v : Word} (h : DevStep s t) : DevStep s (writeLcdCtrl mask v t) := by
  unfold writeLcdCtrl
  try dsimp only
  with_reducible repeat' first | exact h | apply DevStep.ioMod | apply DevStep.ioSet | apply DevStep.drawn | apply plainWrite_dev | apply lcdNote_dev | apply State.setLcd_dev | split

theorem writeLcd_dev {s t : State} {a : Nat} {mask v : Word} (h : DevStep s t) : Res.Dev s (writeLcd a mask v t) := by
  unfold writeLcd
  try dsimp only
  with_reducible repeat' first | exact h | apply DevStep.ioMod | apply DevStep.ioSet | apply DevStep.drawn | apply plainWrite_dev | apply writeLcdCtrl_dev | apply Res.Dev.okI | exact Res.Dev.refusedI | split

theorem lcdStatus_dev {s t : State} {v : BitVec 8} (h : DevStep s t) : DevStep s (lcdStatus v t) := by
  unfold lcdStatus
  try dsimp only
  with_reducible repeat' first | exact h | apply State.setLcdEnds_dev | apply DevStep.ioMod | apply DevStep.ioSet | apply DevStep.drawn | split

theorem State.setCim_dev {s t : State} {d : Cim} (h : DevStep s t) : DevStep s (State.setCim t d) := by
  unfold State.setCim
  try dsimp only
  with_reducible repeat' first | exact h | apply DevStep.ioMod | apply DevStep.ioSet | apply DevStep.drawn | split | apply DevStep.dev

theorem readCim_dev {s t : State} {a : Nat} (h : DevStep s t) : ReadStep s (readCim a t) := by
  unfold readCim
  try dsimp only
  with_reducible repeat' first | exact h | apply DevStep.ioMod | apply DevStep.ioSet | apply DevStep.drawn | apply plainRead_dev | apply freeRead_dev | apply State.setCim_dev | split | apply ReadStep.mk

theorem writeCim_dev {s t : State} {a : Nat} {mask v : Word} (h : DevStep s t) : DevStep s (writeCim a mask v t) := by
  unfold writeCim
  try dsimp only
  with_reducible repeat' first | exact h | apply DevStep.ioMod | apply DevStep.ioSet | apply DevStep.drawn | apply plainWrite_dev | apply andWrite_dev | apply State.setCim_dev | split

theorem cimWord_dev {s t : State} {w : Word} (h : DevStep s t) : DevStep s (cimWord w t) := by
  unfold cimWord
  try dsimp only
  with_reducible repeat' first | exact h | apply DevStep.ioMod | apply DevStep.ioSet | apply DevStep.drawn | apply State.setCim_dev | split

theorem cimDisabled_dev {s t : State} (h : DevStep s t) : DevStep s (cimDisabled t) := by
  unfold cimDisabled
  try dsimp only
  with_reducible repeat' first | exact h | apply DevStep.ioMod | apply DevStep.ioSet | apply DevStep.drawn | apply State.setCim_dev | split

/-! ### DevAudioCard -/

theorem State.setAic_dev {s t : State} {d : Aic} (h : DevStep s t) : DevStep s (State.setAic t d) := by
  unfold State.setAic
  try dsimp only
  with_reducible repeat' first | exact h | apply DevStep.ioMod | apply DevStep.ioSet | apply DevStep.drawn | split | apply DevStep.dev

theorem readAic_dev {s t : State} {a : Nat} (h : DevStep s t) : ReadStep s (readAic a t) := by
  unfold readAic
  try dsimp only
  with_reducible repeat' first | exact h | apply DevStep.ioMod | apply DevStep.ioSet | apply DevStep.drawn | apply plainRead_dev | apply State.setAic_dev | split | apply ReadStep.mk

theorem writeAicReg_dev {s t : State} {a : Nat} {mask v : Word} (h : DevStep s t) : DevStep s (writeAicReg a mask v t) := by
  unfold writeAicReg
  try dsimp only
  with_reducible repeat' first | exact h | apply DevStep.ioMod | apply DevStep.ioSet | apply DevStep.drawn | apply ioResetAll_dev | apply plainWrite_dev | apply andWrite_dev | apply State.setAic_dev | split

theorem writeAic_dev {s t : State} {a : Nat} {mask v : Word} (h : DevStep s t) : Res.Dev s (writeAic a mask v t) := by
  unfold writeAic
  try dsimp only
  with_reducible repeat' first | exact h | apply DevStep.ioMod | apply DevStep.ioSet | apply DevStep.drawn | apply writeAicReg_dev | apply Res.Dev.okI | exact Res.Dev.refusedI | split

theorem aicRecord_dev {s t : State} {v : BitVec 24} (h : DevStep s t) : DevStep s (aicRecord v t) := by
  unfold aicRecord
  try dsimp only
  with_reducible repeat' first | exact h | apply DevStep.ioMod | apply State.setAic_dev | split

theorem aicSend_dev {s t : State} {v : BitVec 24} (h : DevStep s t) : DevStep s (aicSend v t) := by
  unfold aicSend
  with_reducible repeat' first | exact h | apply aicRecord_dev | split

theorem aicOut_dev {s t : State} (h : DevStep s t) : DevStep s (aicOut t) := by
  unfold aicOut
  with_reducible repeat' first | exact h | apply DevStep.ioMod | apply aicSend_dev | apply State.setAic_dev | split

theorem aicIn_dev {s t : State} {v : BitVec 24} (h : DevStep s t) : DevStep s (aicIn v t) := by
  unfold aicIn
  with_reducible repeat' first | exact h | apply aicRecord_dev | split

theorem aicCommandDone_dev {s t : State} (h : DevStep s t) : DevStep s (aicCommandDone t) := by
  unfold aicCommandDone
  try dsimp only
  with_reducible repeat' first | exact h | apply DevStep.ioMod | apply DevStep.ioSet | apply DevStep.drawn | split

theorem aicStatus_dev {s t : State} {sar sdr : BitVec 20} (h : DevStep s t) : DevStep s (aicStatus sar sdr t) := by
  unfold aicStatus
  try dsimp only
  with_reducible repeat' first | exact h | apply DevStep.ioMod | apply DevStep.ioSet | apply DevStep.drawn | split

theorem aicTimeout_dev {s t : State} (h : DevStep s t) : DevStep s (aicTimeout t) := by
  unfold aicTimeout
  try dsimp only
  with_reducible repeat' first | exact h | apply DevStep.ioMod | apply DevStep.ioSet | apply DevStep.drawn | split

theorem aicCodec_dev {s t : State} {ready lowPower : Bool} (h : DevStep s t) : DevStep s (aicCodec ready lowPower t) := by
  unfold aicCodec
  try dsimp only
  with_reducible repeat' first | exact h | apply DevStep.ioMod | apply DevStep.ioSet | apply DevStep.drawn | split

theorem aicBusy_dev {s t : State} {b : Bool} (h : DevStep s t) : DevStep s (aicBusy b t) := by
  unfold aicBusy
  try dsimp only
  with_reducible repeat' first | exact h | apply DevStep.ioMod | apply DevStep.ioSet | apply DevStep.drawn | split

theorem aicSlots_dev {s t : State} {rs : BitVec 10} (h : DevStep s t) : DevStep s (aicSlots rs t) := by
  unfold aicSlots
  try dsimp only
  with_reducible repeat' first | exact h | apply DevStep.ioMod | apply DevStep.ioSet | apply DevStep.drawn | split

theorem State.setMsc_dev {s t : State} {d : Msc} (h : DevStep s t) : DevStep s (State.setMsc t d) := by
  unfold State.setMsc
  try dsimp only
  with_reducible repeat' first | exact h | apply DevStep.ioMod | apply DevStep.ioSet | apply DevStep.drawn | split | apply DevStep.dev

theorem readMsc_dev {s t : State} {a : Nat} (h : DevStep s t) : ReadStep s (readMsc a t) := by
  unfold readMsc
  try dsimp only
  with_reducible repeat' first | exact h | apply DevStep.ioMod | apply DevStep.ioSet | apply DevStep.drawn | apply plainRead_dev | apply freeRead_dev | apply freeField_dev | apply State.setMsc_dev | split | apply ReadStep.mk

theorem mscStart_dev {s t : State} (h : DevStep s t) : DevStep s (mscStart t) := by
  unfold mscStart
  try dsimp only
  with_reducible repeat' first | exact h | apply DevStep.ioMod | apply DevStep.ioSet | apply DevStep.drawn | apply State.setMsc_dev | split

theorem writeStrpcl_dev {s t : State} {v : Word} (h : DevStep s t) : Res.Dev s (writeStrpcl v t) := by
  unfold writeStrpcl
  try dsimp only
  with_reducible repeat' first | exact h | apply DevStep.ioMod | apply DevStep.ioSet | apply DevStep.drawn | apply ioResetAll_dev | apply State.setMsc_dev | apply mscStart_dev | apply Res.Dev.okI | exact Res.Dev.refusedI | split

theorem writeMsc_dev {s t : State} {a : Nat} {mask v : Word} (h : DevStep s t) : Res.Dev s (writeMsc a mask v t) := by
  unfold writeMsc
  try dsimp only
  with_reducible repeat' first | exact h | apply DevStep.ioMod | apply DevStep.ioSet | apply DevStep.drawn | apply plainWrite_dev | apply State.setMsc_dev | apply writeStrpcl_dev | apply Res.Dev.okI | exact Res.Dev.refusedI | split

theorem mscClockStopped_dev {s t : State} (h : DevStep s t) : DevStep s (mscClockStopped t) := by
  unfold mscClockStopped
  try dsimp only
  with_reducible repeat' first | exact h | apply DevStep.ioMod | apply DevStep.ioSet | apply DevStep.drawn | apply State.setMsc_dev | split

theorem mscResetDone_dev {s t : State} (h : DevStep s t) : DevStep s (mscResetDone t) := by
  unfold mscResetDone
  try dsimp only
  with_reducible repeat' first | exact h | apply DevStep.ioMod | apply DevStep.ioSet | apply DevStep.drawn | split

theorem mscCmdDone_dev {s t : State} {r : CardAnswer} (h : DevStep s t) : DevStep s (mscCmdDone r t) := by
  unfold mscCmdDone
  try dsimp only
  with_reducible repeat' first | exact h | apply DevStep.ioMod | apply DevStep.ioSet | apply DevStep.drawn | apply State.setMsc_dev | split

theorem mscDataWord_dev {s t : State} {w : Word} {last : Bool} (h : DevStep s t) : DevStep s (mscDataWord w last t) := by
  unfold mscDataWord
  try dsimp only
  with_reducible repeat' first | exact h | apply DevStep.ioMod | apply DevStep.ioSet | apply DevStep.drawn | apply State.setMsc_dev | split

theorem mscTakeWord_dev {s t : State} (h : DevStep s t) : DevStep s (mscTakeWord t) := by
  unfold mscTakeWord
  try dsimp only
  with_reducible repeat' first | exact h | apply DevStep.ioMod | apply DevStep.ioSet | apply DevStep.drawn | apply State.setMsc_dev | split

theorem mscDataDone_dev {s t : State} {blocks : BitVec 16} {errors : BitVec 6} (h : DevStep s t) : DevStep s (mscDataDone blocks errors t) := by
  unfold mscDataDone
  try dsimp only
  with_reducible repeat' first | exact h | apply DevStep.ioMod | apply DevStep.ioSet | apply DevStep.drawn | apply State.setMsc_dev | split

theorem mscPrgDone_dev {s t : State} (h : DevStep s t) : DevStep s (mscPrgDone t) := by
  unfold mscPrgDone
  try dsimp only
  with_reducible repeat' first | exact h | apply DevStep.ioMod | apply DevStep.ioSet | apply DevStep.drawn | split

theorem mscSdioInt_dev {s t : State} {level : Bool} (h : DevStep s t) : DevStep s (mscSdioInt level t) := by
  unfold mscSdioInt
  try dsimp only
  with_reducible repeat' first | exact h | apply DevStep.ioMod | apply DevStep.ioSet | apply DevStep.drawn | split

theorem mscReadWait_dev {s t : State} (h : DevStep s t) : DevStep s (mscReadWait t) := by
  unfold mscReadWait
  try dsimp only
  with_reducible repeat' first | exact h | apply DevStep.ioMod | apply DevStep.ioSet | apply DevStep.drawn | apply State.setMsc_dev | split

/-! ### DevEth -/

theorem State.setEth_dev {s t : State} {d : Eth} (h : DevStep s t) : DevStep s (State.setEth t d) := by
  unfold State.setEth
  try dsimp only
  with_reducible repeat' first | exact h | apply DevStep.ioMod | apply DevStep.ioSet | apply DevStep.drawn | split | apply DevStep.dev

theorem ethRaise_dev {s t : State} {bits : Word} (h : DevStep s t) : DevStep s (ethRaise bits t) := by
  unfold ethRaise
  try dsimp only
  with_reducible repeat' first | exact h | apply DevStep.ioMod | apply DevStep.ioSet | apply DevStep.drawn | split

theorem ethTs_dev {s t : State} {v : Word} (h : DevStep s t) : DevStep s (ethTs v t) := by
  unfold ethTs
  try dsimp only
  with_reducible repeat' first | exact h | apply DevStep.ioMod | apply DevStep.ioSet | apply DevStep.drawn | split

theorem ethRs_dev {s t : State} {v : Word} (h : DevStep s t) : DevStep s (ethRs v t) := by
  unfold ethRs
  try dsimp only
  with_reducible repeat' first | exact h | apply DevStep.ioMod | apply DevStep.ioSet | apply DevStep.drawn | split

theorem State.setTx_dev {s t : State} {d : EthDma} (h : DevStep s t) : DevStep s (State.setTx t d) := by
  unfold State.setTx
  try dsimp only
  with_reducible repeat' first | exact h | apply DevStep.ioMod | apply DevStep.ioSet | apply DevStep.drawn | apply State.setEth_dev | split

theorem State.setRx_dev {s t : State} {d : EthDma} (h : DevStep s t) : DevStep s (State.setRx t d) := by
  unfold State.setRx
  try dsimp only
  with_reducible repeat' first | exact h | apply DevStep.ioMod | apply DevStep.ioSet | apply DevStep.drawn | apply State.setEth_dev | split

theorem ethTxStart_dev {s t : State} {d : Word} (h : DevStep s t) : DevStep s (ethTxStart d t) := by
  unfold ethTxStart
  try dsimp only
  with_reducible repeat' first | exact h | apply DevStep.ioMod | apply DevStep.ioSet | apply DevStep.drawn | apply ethTs_dev | apply State.setTx_dev | split

theorem ethTxSuspend_dev {s t : State} (h : DevStep s t) : DevStep s (ethTxSuspend t) := by
  unfold ethTxSuspend
  try dsimp only
  with_reducible repeat' first | exact h | apply DevStep.ioMod | apply DevStep.ioSet | apply DevStep.drawn | apply ethTs_dev | apply State.setTx_dev | split

theorem ethTxToWire_dev {s t : State} {d : EthDma} (h : DevStep s t) : DevStep s (ethTxToWire d t) := by
  unfold ethTxToWire
  try dsimp only
  with_reducible repeat' first | exact h | apply DevStep.ioMod | apply DevStep.ioSet | apply DevStep.drawn | apply State.setEth_dev | apply ethTs_dev | apply State.setTx_dev | split

theorem ethTxHandOver_dev {s t : State} {d : EthDma} (h : DevStep s t) : DevStep s (ethTxHandOver d t) := by
  unfold ethTxHandOver
  try dsimp only
  with_reducible repeat' first | exact h | apply DevStep.ioMod | apply DevStep.ioSet | apply DevStep.drawn | apply ethTs_dev | apply State.setTx_dev | apply ethTxToWire_dev | split

theorem ethTxDescDone_dev {s t : State} (h : DevStep s t) : DevStep s (ethTxDescDone t) := by
  unfold ethTxDescDone
  try dsimp only
  with_reducible repeat' first | exact h | apply DevStep.ioMod | apply DevStep.ioSet | apply DevStep.drawn | apply ethRaise_dev | apply State.setTx_dev | apply ethTxHandOver_dev | split

theorem ethTxBuffer2_dev {s t : State} (h : DevStep s t) : DevStep s (ethTxBuffer2 t) := by
  unfold ethTxBuffer2
  try dsimp only
  with_reducible repeat' first | exact h | apply DevStep.ioMod | apply DevStep.ioSet | apply DevStep.drawn | apply State.setTx_dev | apply ethTxDescDone_dev | split

theorem ethTxBuffer1_dev {s t : State} (h : DevStep s t) : DevStep s (ethTxBuffer1 t) := by
  unfold ethTxBuffer1
  try dsimp only
  with_reducible repeat' first | exact h | apply DevStep.ioMod | apply DevStep.ioSet | apply DevStep.drawn | apply ethTs_dev | apply State.setTx_dev | apply ethTxBuffer2_dev | split

theorem ethTxPoll_dev {s t : State} (h : DevStep s t) : DevStep s (ethTxPoll t) := by
  unfold ethTxPoll
  try dsimp only
  with_reducible repeat' first | exact h | apply DevStep.ioMod | apply DevStep.ioSet | apply DevStep.drawn | apply ethTs_dev | apply State.setTx_dev | apply ethTxHandOver_dev | split

theorem ethUnderflow_dev {s t : State} (h : DevStep s t) : DevStep s (ethUnderflow t) := by
  unfold ethUnderflow
  try dsimp only
  with_reducible repeat' first | exact h | apply DevStep.ioMod | apply DevStep.ioSet | apply DevStep.drawn | apply State.setEth_dev | apply ethTxHandOver_dev | split

theorem ethOverflow_dev {s t : State} (h : DevStep s t) : DevStep s (ethOverflow t) := by
  unfold ethOverflow
  try dsimp only
  with_reducible repeat' first | exact h | apply DevStep.ioMod | apply DevStep.ioSet | apply DevStep.drawn | split

theorem ethMissed_dev {s t : State} {n : Nat} (h : DevStep s t) : DevStep s (ethMissed n t) := by
  unfold ethMissed
  try dsimp only
  with_reducible repeat' first | exact h | apply DevStep.ioMod | apply DevStep.ioSet | apply DevStep.drawn | split

theorem ethRxStart_dev {s t : State} {d : Word} (h : DevStep s t) : DevStep s (ethRxStart d t) := by
  unfold ethRxStart
  try dsimp only
  with_reducible repeat' first | exact h | apply DevStep.ioMod | apply DevStep.ioSet | apply DevStep.drawn | apply ethRs_dev | apply State.setRx_dev | split

theorem ethRxSuspend_dev {s t : State} (h : DevStep s t) : DevStep s (ethRxSuspend t) := by
  unfold ethRxSuspend
  try dsimp only
  with_reducible repeat' first | exact h | apply DevStep.ioMod | apply DevStep.ioSet | apply DevStep.drawn | apply State.setEth_dev | apply ethRaise_dev | apply ethRs_dev | apply ethMissed_dev | split

theorem ethRxDescDone_dev {s t : State} (h : DevStep s t) : DevStep s (ethRxDescDone t) := by
  unfold ethRxDescDone
  try dsimp only
  with_reducible repeat' first | exact h | apply DevStep.ioMod | apply DevStep.ioSet | apply DevStep.drawn | apply ethRs_dev | apply State.setRx_dev | split

theorem ethRxBuffer2_dev {s t : State} (h : DevStep s t) : DevStep s (ethRxBuffer2 t) := by
  unfold ethRxBuffer2
  try dsimp only
  with_reducible repeat' first | exact h | apply DevStep.ioMod | apply DevStep.ioSet | apply DevStep.drawn | apply State.setRx_dev | apply ethRxDescDone_dev | split

theorem ethRxBuffer1_dev {s t : State} (h : DevStep s t) : DevStep s (ethRxBuffer1 t) := by
  unfold ethRxBuffer1
  try dsimp only
  with_reducible repeat' first | exact h | apply DevStep.ioMod | apply DevStep.ioSet | apply DevStep.drawn | apply ethRs_dev | apply State.setRx_dev | apply ethRxBuffer2_dev | split

theorem ethRxReady_dev {s t : State} (h : DevStep s t) : DevStep s (ethRxReady t) := by
  unfold ethRxReady
  try dsimp only
  with_reducible repeat' first | exact h | apply DevStep.ioMod | apply DevStep.ioSet | apply DevStep.drawn | apply State.setEth_dev | apply ethRs_dev | apply State.setRx_dev | apply ethRxBuffer1_dev | split

theorem ethRxPoll_dev {s t : State} (h : DevStep s t) : DevStep s (ethRxPoll t) := by
  unfold ethRxPoll
  try dsimp only
  with_reducible repeat' first | exact h | apply DevStep.ioMod | apply DevStep.ioSet | apply DevStep.drawn | apply ethRs_dev | apply State.setRx_dev | split

theorem ethDeliver_dev {s t : State} {f : List Byte} {status : Word} (h : DevStep s t) : DevStep s (ethDeliver f status t) := by
  unfold ethDeliver
  try dsimp only
  with_reducible repeat' first | exact h | apply DevStep.ioMod | apply DevStep.ioSet | apply DevStep.drawn | apply State.setEth_dev | apply ethRaise_dev | apply ethMissed_dev | apply ethRxReady_dev | split

theorem ethWake_dev {s t : State} {f : List Byte} {status : Word} (h : DevStep s t) : DevStep s (ethWake f status t) := by
  unfold ethWake
  try dsimp only
  with_reducible repeat' first | exact h | apply DevStep.ioMod | apply DevStep.ioSet | apply DevStep.drawn | split

theorem ethArrive_dev {s t : State} {f : List Byte} {status : Word} (h : DevStep s t) : DevStep s (ethArrive f status t) := by
  unfold ethArrive
  try dsimp only
  with_reducible repeat' first | exact h | apply DevStep.ioMod | apply DevStep.ioSet | apply DevStep.drawn | apply ethDeliver_dev | apply ethWake_dev | split

theorem ethFrame_dev {s t : State} {f : List Byte} {status : Word} (h : DevStep s t) : DevStep s (ethFrame f status t) := by
  unfold ethFrame
  try dsimp only
  with_reducible repeat' first | exact h | apply DevStep.ioMod | apply DevStep.ioSet | apply DevStep.drawn | apply ethArrive_dev | split

theorem ethTxReport_dev {s t : State} {w : EthDma} {status : Word} (h : DevStep s t) : DevStep s (ethTxReport w status t) := by
  unfold ethTxReport
  try dsimp only
  with_reducible repeat' first | exact h | apply DevStep.ioMod | apply DevStep.ioSet | apply DevStep.drawn | apply ethRaise_dev | apply ethTxSuspend_dev | split

theorem ethTxGoOn_dev {s t : State} (h : DevStep s t) : DevStep s (ethTxGoOn t) := by
  unfold ethTxGoOn
  try dsimp only
  with_reducible repeat' first | exact h | apply DevStep.ioMod | apply DevStep.ioSet | apply DevStep.drawn | apply ethTs_dev | apply State.setTx_dev | apply ethTxToWire_dev | split

theorem ethTxFinish_dev {s t : State} {w : EthDma} {status : Word} (h : DevStep s t) : DevStep s (ethTxFinish w status t) := by
  unfold ethTxFinish
  try dsimp only
  with_reducible repeat' first | exact h | apply DevStep.ioMod | apply DevStep.ioSet | apply DevStep.drawn | apply State.setEth_dev | apply ethArrive_dev | apply ethTxReport_dev | apply ethTxGoOn_dev | split

theorem ethTxSwitch_dev {s t : State} {old new : Bool} (h : DevStep s t) : DevStep s (ethTxSwitch old new t) := by
  unfold ethTxSwitch
  try dsimp only
  with_reducible repeat' first | exact h | apply DevStep.ioMod | apply DevStep.ioSet | apply DevStep.drawn | apply State.setEth_dev | apply ethRaise_dev | apply ethTs_dev | apply ethTxStart_dev | split

theorem ethRxSwitch_dev {s t : State} {old new : Bool} (h : DevStep s t) : DevStep s (ethRxSwitch old new t) := by
  unfold ethRxSwitch
  try dsimp only
  with_reducible repeat' first | exact h | apply DevStep.ioMod | apply DevStep.ioSet | apply DevStep.drawn | apply State.setEth_dev | apply ethRaise_dev | apply ethRs_dev | apply ethRxStart_dev | split

theorem ethStartStop_dev {s t : State} {old new : Word} (h : DevStep s t) : DevStep s (ethStartStop old new t) := by
  unfold ethStartStop
  try dsimp only
  with_reducible repeat' first | exact h | apply DevStep.ioMod | apply DevStep.ioSet | apply DevStep.drawn | apply ethTxSwitch_dev | apply ethRxSwitch_dev | split

theorem ethBusError_dev {s t : State} {eb : Word} (h : DevStep s t) : DevStep s (ethBusError eb t) := by
  unfold ethBusError
  try dsimp only
  with_reducible repeat' first | exact h | apply DevStep.ioMod | apply DevStep.ioSet | apply DevStep.drawn | apply State.setEth_dev | apply ethRaise_dev | apply ethTs_dev | apply ethRs_dev | split

theorem ethStatus_dev {s t : State} {v : Word} (h : DevStep s t) : DevStep s (ethStatus v t) := by
  unfold ethStatus
  try dsimp only
  with_reducible repeat' first | exact h | apply DevStep.ioMod | apply DevStep.ioSet | apply DevStep.drawn | apply State.setEth_dev | apply ethRaise_dev | apply ethTs_dev | apply ethUnderflow_dev | split

theorem ethSoftReset_dev {s t : State} (h : DevStep s t) : DevStep s (ethSoftReset t) := by
  unfold ethSoftReset
  try dsimp only
  with_reducible repeat' first | exact h | apply DevStep.ioMod | apply DevStep.ioSet | apply DevStep.drawn | apply ioResetAll_dev | apply State.setEth_dev | split

theorem ethWkfr_dev {s t : State} {v : Word} (h : DevStep s t) : DevStep s (ethWkfr v t) := by
  unfold ethWkfr
  try dsimp only
  with_reducible repeat' first | exact h | apply DevStep.ioMod | apply DevStep.ioSet | apply DevStep.drawn | apply State.setEth_dev | split

theorem readEth_dev {s t : State} {a : Nat} (h : DevStep s t) : ReadStep s (readEth a t) := by
  unfold readEth
  try dsimp only
  with_reducible repeat' first | exact h | apply DevStep.ioMod | apply DevStep.ioSet | apply DevStep.drawn | apply plainRead_dev | split | apply ReadStep.mk

theorem writeEthReg_dev {s t : State} {a : Nat} {mask v : Word} (h : DevStep s t) : DevStep s (writeEthReg a mask v t) := by
  unfold writeEthReg
  try dsimp only
  with_reducible repeat' first | exact h | apply DevStep.ioMod | apply DevStep.ioSet | apply DevStep.drawn | apply plainWrite_dev | apply ethTxPoll_dev | apply ethRxPoll_dev | apply ethStartStop_dev | apply ethSoftReset_dev | apply ethWkfr_dev | split

theorem writeEth_dev {s t : State} {a : Nat} {mask v : Word} (h : DevStep s t) : Res.Dev s (writeEth a mask v t) := by
  unfold writeEth
  try dsimp only
  with_reducible repeat' first | exact h | apply DevStep.ioMod | apply DevStep.ioSet | apply DevStep.drawn | apply writeEthReg_dev | apply Res.Dev.okI | exact Res.Dev.refusedI | split

theorem ethMiiDone_dev {s t : State} {data : BitVec 16} (h : DevStep s t) : DevStep s (ethMiiDone data t) := by
  unfold ethMiiDone
  try dsimp only
  with_reducible repeat' first | exact h | apply DevStep.ioMod | apply DevStep.ioSet | apply DevStep.drawn | split

theorem ethPauseDone_dev {s t : State} (h : DevStep s t) : DevStep s (ethPauseDone t) := by
  unfold ethPauseDone
  try dsimp only
  with_reducible repeat' first | exact h | apply DevStep.ioMod | apply DevStep.ioSet | apply DevStep.drawn | split

/-! ### Dma -/

theorem State.setDmac_dev {s t : State} {d : Dma} (h : DevStep s t) : DevStep s (State.setDmac t d) := by
  unfold State.setDmac
  try dsimp only
  with_reducible repeat' first | exact h | apply DevStep.ioMod | apply DevStep.ioSet | apply DevStep.drawn | split | apply DevStep.dev

theorem dmaIdle_dev {s t : State} (h : DevStep s t) : DevStep s (dmaIdle t) := by
  unfold dmaIdle
  try dsimp only
  with_reducible repeat' first | exact h | apply DevStep.ioMod | apply DevStep.ioSet | apply DevStep.drawn | apply State.setDmac_dev | split

theorem dmaStart_dev {s t : State} {n : Nat} (h : DevStep s t) : DevStep s (dmaStart n t) := by
  unfold dmaStart
  try dsimp only
  with_reducible repeat' first | exact h | apply DevStep.ioMod | apply DevStep.ioSet | apply DevStep.drawn | apply State.setDmac_dev | split

theorem dmaAddressError_dev {s t : State} {n : Nat} (h : DevStep s t) : DevStep s (dmaAddressError n t) := by
  unfold dmaAddressError
  try dsimp only
  with_reducible repeat' first | exact h | apply DevStep.ioMod | apply DevStep.ioSet | apply DevStep.drawn | apply dmaIdle_dev | split

theorem dmaFinish_dev {s t : State} {n size : Nat} (h : DevStep s t) : DevStep s (dmaFinish n size t) := by
  unfold dmaFinish
  try dsimp only
  with_reducible repeat' first | exact h | apply DevStep.ioMod | apply DevStep.ioSet | apply DevStep.drawn | apply State.setDmac_dev | apply dmaIdle_dev | split

/-! ### Agents -/

theorem lcdFrameBit_dev {s t : State} {want : Bool} {i : Nat} {c : BitVec 1} (h : DevStep s t) : DevStep s (lcdFrameBit want i c t) := by
  unfold lcdFrameBit
  try dsimp only
  with_reducible repeat' first | exact h | apply DevStep.ioMod | apply DevStep.ioSet | apply DevStep.drawn | split

theorem lcdPalette_dev {s t : State} {w : Word} (h : DevStep s t) : DevStep s (lcdPalette w t) := by
  unfold lcdPalette
  try dsimp only
  with_reducible repeat' first | exact h | apply DevStep.ioMod | apply DevStep.ioSet | apply DevStep.drawn | split | apply DevStep.dev

theorem cimFrameBit_dev {s t : State} {want : Bool} {i : Nat} (h : DevStep s t) : DevStep s (cimFrameBit want i t) := by
  unfold cimFrameBit
  try dsimp only
  with_reducible repeat' first | exact h | apply DevStep.ioMod | apply DevStep.ioSet | apply DevStep.drawn | split

theorem cimEnd_dev {s t : State} {cmd : Word} (h : DevStep s t) : DevStep s (cimEnd cmd t) := by
  unfold cimEnd
  try dsimp only
  with_reducible repeat' first | exact h | apply DevStep.ioMod | apply DevStep.ioSet | apply DevStep.drawn | apply State.setCim_dev | apply cimFrameBit_dev | split

/-! ### EthAgent -/

theorem ethRxNoDescriptor_dev {s t : State} (h : DevStep s t) : DevStep s (ethRxNoDescriptor t) := by
  unfold ethRxNoDescriptor
  try dsimp only
  with_reducible repeat' first | exact h | apply DevStep.ioMod | apply DevStep.ioSet | apply DevStep.drawn | apply ethRs_dev | apply State.setRx_dev | apply ethRxSuspend_dev | split

theorem ethRxFull_dev {s t : State} (h : DevStep s t) : DevStep s (ethRxFull t) := by
  unfold ethRxFull
  try dsimp only
  with_reducible repeat' first | exact h | apply DevStep.ioMod | apply DevStep.ioSet | apply DevStep.drawn | apply ethRaise_dev | apply State.setRx_dev | split

theorem ethRxFinish_dev {s t : State} (h : DevStep s t) : DevStep s (ethRxFinish t) := by
  unfold ethRxFinish
  try dsimp only
  with_reducible repeat' first | exact h | apply DevStep.ioMod | apply DevStep.ioSet | apply DevStep.drawn | apply ethRaise_dev | apply ethRxStart_dev | apply ethRxSuspend_dev | split

end Sys2Proof.Machine
end

