-- ==== Sys2Proof/Laws/Bus.lean ====
section
/-! SUPPORT. What bus accesses, the write buffer and the agents can change: devices, memory cells and the write buffer. -/

namespace Sys2Proof.Machine

variable {α β : Type}

/-! ### A property of every state an answer carries -/

/-- `P` holds of the state that an answer carries, if it carries one. -/
def Res.All (P : State → Prop) : Res α → Prop
  | .ok _ t => P t
  | .exc _ t => P t
  | .dbg _ t => P t
  | .stall t => P t
  | .fault _ => True
  | .refused _ => True

variable {P Q : State → Prop}

theorem Res.All.bind {r : Res α} {k : α → State → Res β} (h : r.All P) (hk : ∀ a t, P t → (k a t).All P) :
    (r.bind k).All P := by
  cases r <;> first | exact hk _ _ h | exact h

theorem Res.All.bindOf {r : Res α} {k : α → State → Res β} (h : r.All Q) (hq : ∀ t, Q t → P t)
    (hk : ∀ a t, Q t → (k a t).All P) : (r.bind k).All P := by
  cases r <;> first | exact hk _ _ h | exact hq _ h | exact True.intro

theorem Res.All.mono {r : Res α} (h : r.All P) (hpq : ∀ t, P t → Q t) : r.All Q := by
  cases r <;> first | exact hpq _ h | exact True.intro

theorem Res.All.okI {a : α} {t : State} (h : P t) : (Res.ok a t).All P := h

theorem Res.All.refusedI {r : Refusal} : (.refused r : Res α).All P := True.intro

theorem Res.All.faultI {r : Fault} : (.fault r : Res α).All P := True.intro

/-- The answer of an instruction built on an access. -/
theorem Res.out_next {r : Res α} {k : α → State → Out} {u : State} (h : r.All P) (hu : r.out k = .next u) :
    (∃ a t, P t ∧ k a t = .next u) ∨ (∃ e t, P t ∧ u = takeException e t) ∨ (∃ c t, P t ∧ u = debugEntry c t) ∨ P u := by
  cases r with
  | ok a t => exact .inl ⟨a, t, h, hu⟩
  | exc e t => exact .inr (.inl ⟨e, t, h, by simpa [Res.out, raise] using hu.symm⟩)
  | dbg c t => exact .inr (.inr (.inl ⟨c, t, h, by simpa [Res.out] using hu.symm⟩))
  | stall t => exact .inr (.inr (.inr (by simp [Res.out] at hu; exact hu ▸ h)))
  | fault _ => simp [Res.out] at hu
  | refused _ => simp [Res.out] at hu

/-! ### Bus accesses -/

/-- The view of `t` with the parts that bus accesses and events may change taken from `s`: memory cells, the write buffer, the
requests to the core, and the events still to come between its transfers. -/
def State.coreOf (s t : State) : CoreView :=
  { t.view with mem := s.mem, wbuf := s.wbuf, nmiReq := s.nmiReq, dintReq := s.dintReq, ejtag := s.ejtag, between := s.between }

/-- `t` comes from `s` by bus accesses and events: devices, memory cells, the write buffer and the requests to the core may
differ. -/
structure BusStep (s t : State) : Prop where
  core : s.coreOf t = s.view
  mem : Memory.wf s.mem = true → Memory.wf t.mem = true
  io : IoOk s → IoOk t
  wbuf : s.wbuf.length ≤ 16 → t.wbuf.length ≤ 16

theorem BusStep.refl (s : State) : BusStep s s := ⟨rfl, id, id, id⟩

theorem BusStep.trans {s t u : State} (h : BusStep s t) (k : BusStep t u) : BusStep s u :=
  ⟨by have h3 := congrArg (fun v : CoreView => ({ v with
        mem := s.mem, wbuf := s.wbuf, nmiReq := s.nmiReq, dintReq := s.dintReq, ejtag := s.ejtag, between := s.between } : CoreView))
        k.core
      exact h3.trans h.core,
   fun x => k.mem (h.mem x), fun x => k.io (h.io x), fun x => k.wbuf (h.wbuf x)⟩

theorem DevStep.bus {s t : State} (h : DevStep s t) : BusStep s t := by
  have hm : t.mem = s.mem := congrArg CoreView.mem h.view
  have hw : t.wbuf = s.wbuf := congrArg CoreView.wbuf h.view
  exact ⟨by unfold State.coreOf; rw [h.view]; rfl, fun x => hm ▸ x, h.io, fun x => hw ▸ x⟩

theorem BusStep.dev {s t u : State} (h : BusStep s t) (k : DevStep t u) : BusStep s u := h.trans k.bus

theorem BusStep.drawn {s t : State} {n : Nat} (h : BusStep s t) : BusStep s (t.drawn n) := h.dev (DevStep.refl t).drawn

theorem BusStep.setMemBytes {s t : State} {k : Nat} {bs : List Byte} (h : BusStep s t) : BusStep s (t.setMemBytes k bs) :=
  h.trans ⟨by rw [State.setMemBytes_eq]; rfl, fun x => Memory.wf_setMemBytes t k bs x,
    fun x => by rw [State.setMemBytes_eq]; exact x, fun x => by rw [State.setMemBytes_eq]; exact x⟩

theorem Res.Dev.all {r : Res α} {s t : State} (h : BusStep s t) (hr : r.Dev t) : r.All (BusStep s) := by
  cases r <;> first | exact h.dev hr | exact True.intro | exact False.elim hr

theorem ioRead_dev {s : State} (r : IoReg) : DevStep s (ioRead r s).2 := by
  have h := DevStep.refl s
  unfold ioRead
  with_reducible repeat' first
    | apply freeRead_dev | apply plainRead_dev | apply readIntc_dev | apply readOst_dev | apply readGpio_dev
    | apply readAic_dev | apply readMsc_dev | apply readUart_dev | apply readScc_dev | apply readI2c_dev | apply readSsi_dev
    | apply readKbc_dev | apply readDmac_dev | apply readUdc_dev | apply readCim_dev | apply readEth_dev | apply readEmc_dev | exact h | split

theorem ioWrite_dev {s : State} (r : IoReg) (v : Word) : (ioWrite r v s).Dev s := by
  have h := DevStep.refl s
  unfold ioWrite
  with_reducible repeat' first
    | exact h | apply writeCpmPins_dev | apply writeIntc_dev | apply writeOst_dev | apply writeRtc_dev | apply writeWdt_dev
    | apply writeGpio_dev | apply writeAic_dev | apply writeMsc_dev | apply writeUart_dev | apply writeScc_dev
    | apply writeI2c_dev | apply writeSsi_dev | apply plainWrite_dev | apply writeKbc_dev | apply writeEmc_dev
    | apply writeDmac_dev | apply writeUdc_dev | apply writeLcd_dev | apply writeCim_dev | apply writeEth_dev
    | apply Res.Dev.okI | split

theorem busRead_bus {s t : State} {n pa : Nat} (h : BusStep s t) : (busRead n pa t).All (BusStep s) := by
  unfold busRead
  split
  · exact h
  · split
    · exact True.intro
    · split
      · exact True.intro
      · exact h.dev (ioRead_dev _)
  · split
    · exact True.intro
    · split; exacts [True.intro, h.drawn]
  · split; exacts [True.intro, h.drawn]
  · exact True.intro
  · exact h.drawn.dev (nandEcc_dev (DevStep.refl _))
  all_goals exact True.intro

theorem busWrite_bus {s t : State} {bs : List Byte} {pa : Nat} (h : BusStep s t) : (busWrite bs pa t).All (BusStep s) := by
  unfold busWrite
  split
  · exact h.setMemBytes
  · exact True.intro
  · split
    · exact True.intro
    · split
      · exact True.intro
      · exact Res.Dev.all h (ioWrite_dev _ _)
  · split
    · exact True.intro
    · split
      · exact True.intro
      · exact h.dev (writeTfifo_dev (DevStep.refl _))
  · split; exacts [True.intro, h]
  · exact True.intro
  · exact h.dev (nandEcc_dev (DevStep.refl _))
  · exact h
  all_goals exact True.intro

/-! ### The write buffer -/

/-- A buffer no longer than before. -/
theorem BusStep.shorter {s t : State} {l : List (Nat × List Byte)} (h : BusStep s t) (hl : l.length ≤ t.wbuf.length) :
    BusStep s { t with wbuf := l } :=
  h.trans ⟨rfl, id, id, fun x => Nat.le_trans hl x⟩

theorem drainOne_bus {s t : State} (h : BusStep s t) : (drainOne t).All (BusStep s) := by
  unfold drainOne
  split
  · exact h
  · rename_i pa bs rest heq
    exact busWrite_bus (h.shorter (by rw [heq]; simp))

/-! ### The agents -/

theorem dmaBusRead_bus {s t : State} {w pa : Nat} (h : BusStep s t) : (dmaBusRead w pa t).All (BusStep s) := by
  unfold dmaBusRead
  split
  · exact (busRead_bus h).bind fun _ _ h1 => h1
  · exact busRead_bus h

theorem dmaBusWrite_bus {s t : State} {bs : List Byte} {pa : Nat} (h : BusStep s t) :
    (dmaBusWrite bs pa t).All (BusStep s) := by
  unfold dmaBusWrite
  split <;> exact busWrite_bus h

theorem dmaRead_bus {s t : State} {n : Nat} (h : BusStep s t) : (dmaRead n t).All (BusStep s) := by
  unfold dmaRead
  dsimp only
  split
  · exact h.dev (dmaAddressError_dev (DevStep.refl _))
  · split
    · exact True.intro
    · exact (dmaBusRead_bus h).bind fun _ u h1 => h1.dev (State.setDmac_dev (DevStep.refl _))

theorem dmaWrite_bus {s t : State} {n size : Nat} (h : BusStep s t) : (dmaWrite n size t).All (BusStep s) := by
  unfold dmaWrite
  dsimp only
  split
  · exact h.dev (dmaAddressError_dev (DevStep.refl _))
  · split
    · exact True.intro
    · refine (dmaBusWrite_bus h).bind fun _ u h1 => h1.dev ?_
      split
      · exact dmaFinish_dev (DevStep.refl _)
      · exact State.setDmac_dev (DevStep.refl _)

theorem dmaAccess_bus {s t : State} {n : Nat} (h : BusStep s t) : (dmaAccess n t).All (BusStep s) := by
  unfold dmaAccess
  dsimp only
  split; exacts [dmaRead_bus h, dmaWrite_bus h]

theorem dmaBegin_bus {s t : State} {n : Nat} (h : BusStep s t) :
    BusStep s (if t.dev.dma.cur = some n then t else dmaStart n t) := by
  split; exacts [h, h.dev (dmaStart_dev (DevStep.refl _))]

theorem dmaBlock_bus {s t : State} {n k : Nat} (h : BusStep s t) : (dmaBlock n k t).All (BusStep s) := by
  induction k generalizing t with
  | zero => exact h
  | succ k ih =>
    unfold dmaBlock
    split
    · exact h.dev (dmaIdle_dev (DevStep.refl _))
    · exact (dmaAccess_bus (dmaBegin_bus h)).bind fun _ _ h1 => ih h1

theorem dmaGo_bus {s t : State} {n : Nat} (h : BusStep s t) : (dmaGo n t).All (BusStep s) := by
  unfold dmaGo
  split
  · exact dmaBlock_bus h
  · exact dmaAccess_bus (dmaBegin_bus h)

theorem dmaUnit_bus {s t : State} (h : BusStep s t) : (dmaUnit t).All (BusStep s) := by
  unfold dmaUnit
  split
  · exact h
  · split
    · split
      · exact dmaGo_bus h
      · exact h.dev (dmaIdle_dev (DevStep.refl _))
    · split
      · exact h
      · exact dmaGo_bus h

theorem masterRead_bus {s t : State} {a : Word} (h : BusStep s t) : (masterRead a t).All (BusStep s) :=
  (busRead_bus h).bind fun _ _ h1 => h1

theorem masterWrite_bus {s t : State} {a v : Word} (h : BusStep s t) : (masterWrite a v t).All (BusStep s) := busWrite_bus h

theorem lcdStep_bus {s t : State} {c : BitVec 1} (h : BusStep s t) : (lcdStep c t).All (BusStep s) := by
  unfold lcdStep
  dsimp only
  split
  · exact h
  · split
    · unfold lcdFetch
      refine (masterRead_bus h).bind fun w u h1 => ?_
      dsimp only
      split <;> exact h1.dev (State.setLcd_dev (DevStep.refl _).ioSet)
    · unfold lcdData
      refine (masterRead_bus h).bind fun w u h1 => h1.dev (State.setLcd_dev (lcdFrameBit_dev ?_))
      split
      · exact lcdPalette_dev (lcdFrameBit_dev (DevStep.refl _))
      · exact lcdFrameBit_dev (DevStep.refl _)

theorem cimStep_bus {s t : State} (h : BusStep s t) : (cimStep t).All (BusStep s) := by
  unfold cimStep
  dsimp only
  split
  · exact h
  · split
    · split
      · exact h
      · unfold cimFetch
        refine (masterRead_bus h).bind fun w u h1 => ?_
        dsimp only
        split
        · exact h1.dev (State.setCim_dev (DevStep.refl _).ioSet)
        · split
          · exact True.intro
          · exact h1.dev (State.setCim_dev (DevStep.refl _).ioSet)
    · split
      · exact h
      · unfold cimMove
        refine (masterWrite_bus (h.dev (cimFrameBit_dev (DevStep.refl _)))).bind fun _ u h1 => h1.dev ?_
        split
        · exact cimEnd_dev (State.setCim_dev (DevStep.refl _).ioSet.ioSet)
        · exact State.setCim_dev (DevStep.refl _).ioSet.ioSet

theorem ethAccess_bus {s t : State} {eb : Word} {target : Route} {k : Res Unit} (h : BusStep s t) (hk : k.All (BusStep s)) :
    (ethAccess eb target t k).All (BusStep s) := by
  unfold ethAccess
  split; exacts [h.dev (ethBusError_dev (DevStep.refl _)), hk]

theorem ethReadDesc_bus {s t : State} {eb d : Word} {n : Nat} {k : Word → State → Res Unit} (h : BusStep s t)
    (hk : ∀ w u, BusStep s u → (k w u).All (BusStep s)) : (ethReadDesc eb d n t k).All (BusStep s) :=
  ethAccess_bus h ((busRead_bus h).bind fun _ _ h1 => hk _ _ h1)

theorem ethWriteDesc_bus {s t : State} {eb d v : Word} {k : State → Res Unit} (h : BusStep s t)
    (hk : ∀ u, BusStep s u → (k u).All (BusStep s)) : (ethWriteDesc eb d v t k).All (BusStep s) :=
  ethAccess_bus h ((busWrite_bus h).bind fun _ _ h1 => hk _ h1)

theorem ethTxMove_bus {s t : State} {a : Word} {size : Nat} {next : State → State} (h : BusStep s t)
    (hn : ∀ u v, DevStep u v → DevStep u (next v)) : (ethTxMove a size next t).All (BusStep s) := by
  unfold ethTxMove
  dsimp only
  refine ethAccess_bus h ((busRead_bus h).bind fun bs u h1 => h1.dev ?_)
  split
  · exact hn _ _ (State.setTx_dev (DevStep.refl _).ioSet)
  · exact State.setTx_dev (DevStep.refl _).ioSet

theorem ethTxFetch_bus {s t : State} {n : Nat} (h : BusStep s t) : (ethTxFetch n t).All (BusStep s) := by
  unfold ethTxFetch
  refine ethReadDesc_bus h fun w u h1 => ?_
  dsimp only
  split
  · refine h1.dev ?_
    split
    · exact State.setTx_dev (DevStep.refl _)
    · exact ethTxSuspend_dev (ethRaise_dev (DevStep.refl _))
  · refine h1.dev ?_
    split
    · exact State.setTx_dev (DevStep.refl _)
    · exact ethTxBuffer1_dev (State.setTx_dev (DevStep.refl _))

theorem ethTxClose_bus {s t : State} {ev : Word} (h : BusStep s t) : (ethTxClose ev t).All (BusStep s) := by
  unfold ethTxClose
  split
  · exact h
  · dsimp only
    split
    · exact h
    · split
      · exact h.dev (ethTxFinish_dev (DevStep.refl _))
      · refine ethWriteDesc_bus h fun u h1 => h1.dev ?_
        split
        · exact ethTxFinish_dev (DevStep.refl _)
        · exact State.setEth_dev (DevStep.refl _)

theorem ethTxWait_bus {s t : State} {ev : Word} (h : BusStep s t) : (ethTxWait ev t).All (BusStep s) := by
  unfold ethTxWait
  dsimp only
  split
  · exact h.dev (ethTxToWire_dev (DevStep.refl _))
  · exact ethTxClose_bus h

theorem ethTxStep_bus {s t : State} {status : Word} (h : BusStep s t) : (ethTxStep status t).All (BusStep s) := by
  unfold ethTxStep
  dsimp only
  split
  · exact h
  · split
    · exact ethTxFetch_bus h
    · exact ethTxMove_bus h fun _ _ => ethTxBuffer2_dev
    · exact ethTxMove_bus h fun _ _ => ethTxDescDone_dev
    · exact ethWriteDesc_bus h fun u h1 => h1.dev (ethTs_dev (State.setTx_dev (DevStep.refl _)))
    · exact ethTxWait_bus h
    · exact ethTxClose_bus h
    · exact h

theorem ethRxMove_bus {s t : State} {a : Word} {size : Nat} {next : State → State} (h : BusStep s t)
    (hn : ∀ u v, DevStep u v → DevStep u (next v)) : (ethRxMove a size next t).All (BusStep s) := by
  unfold ethRxMove
  dsimp only
  refine ethAccess_bus h ((busWrite_bus h).bind fun _ u h1 => h1.dev ?_)
  split
  · exact hn _ _ (ethRxFull_dev (State.setRx_dev (DevStep.refl _).ioSet))
  · split
    · exact hn _ _ (State.setRx_dev (DevStep.refl _).ioSet)
    · exact State.setRx_dev (DevStep.refl _).ioSet

theorem ethRxFetch_bus {s t : State} {n : Nat} (h : BusStep s t) : (ethRxFetch n t).All (BusStep s) := by
  unfold ethRxFetch
  refine ethReadDesc_bus h fun w u h1 => ?_
  dsimp only
  split
  · refine h1.dev ?_
    split
    · exact State.setRx_dev (DevStep.refl _)
    · exact ethRxNoDescriptor_dev (DevStep.refl _)
  · refine h1.dev ?_
    split
    · exact State.setRx_dev (DevStep.refl _)
    · exact ethRxReady_dev (State.setRx_dev (DevStep.refl _))

theorem ethRxRelease_bus {s t : State} (h : BusStep s t) : (ethRxRelease t).All (BusStep s) := by
  unfold ethRxRelease
  dsimp only
  split
  · exact h.dev (State.setRx_dev (DevStep.refl _))
  · exact ethWriteDesc_bus h fun u h1 => h1.dev (State.setRx_dev (DevStep.refl _))

theorem ethRxClose_bus {s t : State} (h : BusStep s t) : (ethRxClose t).All (BusStep s) := by
  unfold ethRxClose
  dsimp only
  split
  · exact h.dev (ethRxFinish_dev (DevStep.refl _))
  · exact ethWriteDesc_bus h fun u h1 => h1.dev (ethRxFinish_dev (DevStep.refl _))

theorem ethRxStep_bus {s t : State} (h : BusStep s t) : (ethRxStep t).All (BusStep s) := by
  unfold ethRxStep
  dsimp only
  split
  · exact h
  · split
    · exact ethRxFetch_bus h
    · exact ethRxMove_bus h fun _ _ => ethRxBuffer2_dev
    · exact ethRxMove_bus h fun _ _ => ethRxDescDone_dev
    · exact ethRxRelease_bus h
    · exact ethRxClose_bus h
    · exact h

/-! ### Events -/

theorem applyEvent_bus {s : State} (e : Event) : (applyEvent e s).All (BusStep s) := by
  have d : ∀ {t : State}, DevStep s t → BusStep s t := DevStep.bus
  have r := DevStep.refl s
  cases e with
  | core => exact d r
  | drain =>
    show (if busRuns s then drainOne s else Res.ok () s).All _
    split; exacts [drainOne_bus (BusStep.refl s), d r]
  | nmi => exact (⟨rfl, id, id, id⟩ : BusStep s { s with nmiReq := true })
  | dint => exact (⟨rfl, id, id, id⟩ : BusStep s { s with dintReq := true })
  | probe op =>
    show BusStep s (probeAct op s)
    unfold probeAct
    split
    · exact BusStep.refl s
    · split <;> exact ⟨rfl, id, id, id⟩
  | dmaUnit => exact dmaUnit_bus (BusStep.refl s)
  | lcdStep c => exact lcdStep_bus (BusStep.refl s)
  | cimStep => exact cimStep_bus (BusStep.refl s)
  | ethTxStep status => exact ethTxStep_bus (BusStep.refl s)
  | ethRxStep => exact ethRxStep_bus (BusStep.refl s)
  | powerOnReset => exact d r.resetReq
  | pllLock => exact d (pllLock_dev r)
  | ostTick _ => exact d (ostTick_dev r)
  | ostSync _ => exact d (ostSync_dev r)
  | rtcTick => exact d (rtcTick_dev r)
  | rtcLand => exact d (rtcLand_dev r)
  | wdtTick => exact d (wdtTick_dev r)
  | refreshTick => exact d (refreshTick_dev r)
  | nandReady _ => exact d (nandReady_dev r)
  | gpioDrive _ _ _ => exact d (gpioHost_dev r)
  | gpioRelease _ _ => exact d (gpioHost_dev r)
  | dreq _ _ => exact d (dreqPin_dev r)
  | dmaHalt _ => exact d (dmaHalt_dev r)
  | uartTxStart _ => exact d (uartTxStart_dev r)
  | uartTxDone _ => exact d (uartTxDone_dev r)
  | uartRxChar _ _ => exact d (uartRxChar_dev r)
  | uartRxIdle _ => exact d (uartRxIdle_dev r)
  | uartCts _ _ => exact d (uartCts_dev r)
  | pwmTick _ => exact d (pwmTick_dev r)
  | i2cStart => exact d (i2cStart_dev r)
  | i2cTake => exact d (i2cTake_dev r)
  | i2cSent _ => exact d (i2cSent_dev r)
  | i2cReceived _ => exact d (i2cReceived_dev r)
  | i2cStop => exact d (i2cStop_dev r)
  | ssiTransfer _ => exact d (ssiTransfer_dev r)
  | ssiIdle _ => exact d (ssiIdle_dev r)
  | sccSend => exact d (sccSend_dev r)
  | sccReceive _ _ => exact d (sccReceive_dev r)
  | sccStatus _ => exact d (sccStatus_dev r)
  | sccEtu => exact d (sccEtu_dev r)
  | kbcReceive _ _ _ => exact d (kbcReceive_dev r)
  | kbcRxTimeout _ => exact d (kbcRxTimeout_dev r)
  | kbcSent => exact d (kbcSent_dev r)
  | kbcTxTimeout => exact d (kbcTxTimeout_dev r)
  | udcIn _ => exact d (udcIn_dev r)
  | udcOut _ _ _ _ _ => exact d (udcOut_dev r)
  | udcDevice _ _ => exact d (udcDevice_dev r)
  | udcSetConfig _ => exact d (udcSetConfig_dev r)
  | udcSetInterface _ _ => exact d (udcSetInterface_dev r)
  | lcdStatus _ => exact d (lcdStatus_dev r)
  | cimWord _ => exact d (cimWord_dev r)
  | cimDisabled => exact d (cimDisabled_dev r)
  | ethFrame _ _ => exact d (ethFrame_dev r)
  | ethMiiDone _ => exact d (ethMiiDone_dev r)
  | ethPauseDone => exact d (ethPauseDone_dev r)
  | ethStatus _ => exact d (ethStatus_dev r)
  | ethOverflow => exact d (ethOverflow_dev r)
  | aicOut => exact d (aicOut_dev r)
  | aicIn _ => exact d (aicIn_dev r)
  | aicCommandDone => exact d (aicCommandDone_dev r)
  | aicStatus _ _ => exact d (aicStatus_dev r)
  | aicTimeout => exact d (aicTimeout_dev r)
  | aicCodec _ _ => exact d (aicCodec_dev r)
  | aicBusy _ => exact d (aicBusy_dev r)
  | aicSlots _ => exact d (aicSlots_dev r)
  | mscClockStopped => exact d (mscClockStopped_dev r)
  | mscResetDone => exact d (mscResetDone_dev r)
  | mscCmdDone _ => exact d (mscCmdDone_dev r)
  | mscDataWord _ _ => exact d (mscDataWord_dev r)
  | mscTakeWord => exact d (mscTakeWord_dev r)
  | mscDataDone _ _ => exact d (mscDataDone_dev r)
  | mscPrgDone => exact d (mscPrgDone_dev r)
  | mscSdioInt _ => exact d (mscSdioInt_dev r)
  | mscReadWait => exact d (mscReadWait_dev r)

/-! ### Transfers of the core -/

theorem BusStep.eventsLeft {s t : State} {l : List (List Event)} (h : BusStep s t) : BusStep s { t with between := l } :=
  h.trans ⟨rfl, id, id, id⟩

theorem applyEvents_bus {s t : State} {l : List Event} (h : BusStep s t) : (applyEvents l t).All (BusStep s) := by
  induction l generalizing t with
  | nil => exact h
  | cons e es ih => exact ((applyEvent_bus e).mono fun _ => h.trans).bind fun _ _ h1 => ih h1

theorem agentsMove_bus {s t : State} (h : BusStep s t) : (agentsMove t).All (BusStep s) := by
  unfold agentsMove
  split
  · exact h
  · exact applyEvents_bus h.eventsLeft

/-- Without events between the transfers nothing moves. -/
theorem agentsMove_alone {s : State} (h : s.between = []) : agentsMove s = .ok () s := by unfold agentsMove; rw [h]

theorem drainTimes_bus {s t : State} {k : Nat} (h : BusStep s t) : (drainTimes k t).All (BusStep s) := by
  induction k generalizing t with
  | zero => exact h
  | succ k ih => exact (agentsMove_bus h).bind fun _ _ h1 => (drainOne_bus h1).bind fun _ _ h2 => ih h2

theorem drainAll_bus {s t : State} (h : BusStep s t) : (drainAll t).All (BusStep s) := drainTimes_bus h

theorem drainDevices_bus {s t : State} (h : BusStep s t) : (drainDevices t).All (BusStep s) := drainTimes_bus h

theorem Res.All.and {r : Res α} (h : r.All P) (k : r.All Q) : r.All fun t => P t ∧ Q t := by
  cases r <;> first | exact ⟨h, k⟩ | exact True.intro

/-- A bus write leaves the write buffer alone. -/
theorem busWrite_wbuf {s : State} {bs : List Byte} {pa : Nat} : (busWrite bs pa s).All fun t => t.wbuf = s.wbuf := by
  have dv : ∀ {r : Res Unit}, r.Dev s → r.All fun t => t.wbuf = s.wbuf := by
    intro r hr
    cases r <;> first | exact congrArg CoreView.wbuf hr.view | exact True.intro | exact False.elim hr
  have ds : ∀ {t : State}, DevStep s t → t.wbuf = s.wbuf := fun h => congrArg CoreView.wbuf h.view
  unfold busWrite
  split
  · show (s.setMemBytes _ bs).wbuf = s.wbuf
    rw [State.setMemBytes_eq]
  · exact True.intro
  · split
    · exact True.intro
    · split
      · exact True.intro
      · exact dv (ioWrite_dev _ _)
  · split
    · exact True.intro
    · split
      · exact True.intro
      · exact ds (writeTfifo_dev (DevStep.refl _))
  · split; exacts [True.intro, rfl]
  · exact True.intro
  · exact ds (nandEcc_dev (DevStep.refl _))
  · exact rfl
  all_goals exact True.intro

theorem drainOne_length {s : State} : (drainOne s).All fun t => t.wbuf.length = s.wbuf.length - 1 := by
  unfold drainOne
  split
  · rename_i h; show s.wbuf.length = _; simp [h]
  · rename_i pa bs rest heq
    exact busWrite_wbuf.mono fun t ht => by rw [ht, heq]; simp

/-- What an answer of two parts carries when it is `.ok`. -/
theorem Res.bind_ok {r : Res α} {k : α → State → Res β} {b : β} {v : State} (h : r.bind k = .ok b v) :
    ∃ a u, r = .ok a u ∧ k a u = .ok b v := by
  cases r <;> first | exact ⟨_, _, rfl, h⟩ | cases h

theorem Res.All.of_ok {r : Res α} {a : α} {v : State} (h : r.All P) (hr : r = .ok a v) : P v := by subst hr; exact h

/-- A drain leaves room in the buffer. -/
theorem drainTimes_room {s t v : State} (h : BusStep s t) (hv : drainTimes 1 t = .ok () v) (hs : s.wbuf.length ≤ 16) :
    v.wbuf.length < 16 := by
  obtain ⟨_, u, hu, hd⟩ := Res.bind_ok hv
  obtain ⟨_, w, hw, hr⟩ := Res.bind_ok hd
  cases hr
  have h1 := ((agentsMove_bus h).of_ok hu).wbuf hs
  have h2 := drainOne_length.of_ok hw
  omega

theorem coreWrite_bus {s t : State} {bs : List Byte} {pa : Nat} (h : BusStep s t) : (coreWrite bs pa t).All (BusStep s) := by
  have enter : ∀ v, BusStep s v → (s.wbuf.length ≤ 16 → v.wbuf.length < 16) →
      BusStep s { v with wbuf := v.wbuf ++ [(pa, bs)] } := fun v hv hl =>
    ⟨hv.core, hv.mem, hv.io, fun x => by have := hl x; simpa using this⟩
  unfold coreWrite
  split
  · rename_i hl; exact enter t h fun _ => hl
  · have hd := drainTimes_bus (k := 1) h
    cases hr : drainTimes 1 t with
    | ok x v => rw [hr] at hd; exact enter v hd fun hs => drainTimes_room h hr hs
    | fault r => exact True.intro
    | refused r => exact True.intro
    | _ => rw [hr] at hd; exact hd

theorem coreWriteWords_bus {s t : State} {pa : Nat} {l : List (List Byte)} (h : BusStep s t) :
    (coreWriteWords pa l t).All (BusStep s) := by
  induction l generalizing pa t with
  | nil => exact h
  | cons a as ih => exact (coreWrite_bus h).bind fun _ _ h1 => ih h1

theorem transferRead_bus {s t : State} {n pa : Nat} (h : BusStep s t) : (transferRead n pa t).All (BusStep s) :=
  (agentsMove_bus h).bind fun _ _ h1 => busRead_bus h1

theorem transferWords_bus {s t : State} {pa k : Nat} (h : BusStep s t) : (transferWords pa k t).All (BusStep s) := by
  induction k generalizing pa t with
  | zero => exact h
  | succ k ih => exact (transferRead_bus h).bind fun _ _ h1 => (ih h1).bind fun _ _ h2 => h2

theorem coreRead_bus {s t : State} {n pa : Nat} (h : BusStep s t) : (coreRead n pa t).All (BusStep s) :=
  (drainAll_bus h).bind fun _ _ h1 => transferRead_bus h1

theorem coreReadWords_bus {s t : State} {pa k : Nat} (h : BusStep s t) : (coreReadWords pa k t).All (BusStep s) :=
  (drainAll_bus h).bind fun _ _ h1 => transferWords_bus h1

end Sys2Proof.Machine
end

