-- ==== Sys2Proof/Laws/Access.lean ====
section
/-! SUPPORT. What caches, translation and the access primitives can change: AccessStep. -/

namespace Sys2Proof.Machine

variable {α β : Type}

/-! ### Bits of a CP0 register outside a mask -/

theorem Within.zero {m : Word} : Within m 0 := by simp [Within]

theorem Within.or {m a b : Word} (ha : Within m a) (hb : Within m b) : Within m (a ||| b) := by
  unfold Within at *
  have e : (a ||| b) &&& ~~~m = (a &&& ~~~m) ||| (b &&& ~~~m) := by ext i hi; simp [Bool.and_or_distrib_right]
  rw [e, ha, hb]
  simp

theorem Within.and_left {m a b : Word} (ha : Within m a) : Within m (a &&& b) := by
  unfold Within at *
  rw [BitVec.and_assoc, BitVec.and_comm b, ← BitVec.and_assoc, ha]
  simp

theorem Within.and_right {m a b : Word} (hb : Within m b) : Within m (a &&& b) := by
  rw [BitVec.and_comm]; exact hb.and_left

theorem Within.ite {m a b : Word} {c : Bool} (ha : Within m a) (hb : Within m b) : Within m (if c then a else b) := by
  split <;> assumption

theorem Within.setBit {m a : Word} {i : Nat} {b : Bool} (ha : Within m a) (hi : Within m (one i)) : Within m (setBit a i b) := by
  unfold Machine.setBit
  split
  · exact ha.or hi
  · exact ha.and_left

theorem Within.putField {m a v : Word} {lo len : Nat} (ha : Within m a) (hf : Within m (fieldMask lo len)) :
    Within m (putField a lo len v) := ha.and_left.or hf.and_right

/-! ### Access steps -/

/-- `t` comes from `s` by accesses of the core: beyond a bus step, cache lines, the reporting bits of watch and breakpoint
matches, TagLo and DataLo, and the probe registers may differ. -/
structure AccessStep (s t : State) : Prop where
  core : { t.view with mem := s.mem, wbuf := s.wbuf, icache := s.icache, dcache := s.dcache, cp0 := s.cp0, drseg := s.drseg,
                       ejtag := s.ejtag, nmiReq := s.nmiReq, dintReq := s.dintReq, between := s.between } = s.view
  cp0 : { t.cp0 with watchHi := s.cp0.watchHi, cause := s.cp0.cause, tagLo := s.cp0.tagLo, dataLo := s.cp0.dataLo } = s.cp0
  cp0Ok : Cp0Ok s → Cp0Ok t
  storage : StorageOk s → StorageOk t
  wbuf : s.wbuf.length ≤ 16 → t.wbuf.length ≤ 16

theorem AccessStep.refl (s : State) : AccessStep s s := ⟨rfl, rfl, id, id, id⟩

theorem AccessStep.trans {s t u : State} (h : AccessStep s t) (k : AccessStep t u) : AccessStep s u :=
  ⟨(congrArg (fun v : CoreView => ({ v with mem := s.mem, wbuf := s.wbuf, icache := s.icache, dcache := s.dcache, cp0 := s.cp0,
                                            drseg := s.drseg, ejtag := s.ejtag, nmiReq := s.nmiReq,
                                            dintReq := s.dintReq, between := s.between } : CoreView)) k.core).trans h.core,
   (congrArg (fun c : Cp0 => ({ c with watchHi := s.cp0.watchHi, cause := s.cp0.cause, tagLo := s.cp0.tagLo,
                                       dataLo := s.cp0.dataLo } : Cp0)) k.cp0).trans h.cp0,
   fun x => k.cp0Ok (h.cp0Ok x), fun x => k.storage (h.storage x), fun x => k.wbuf (h.wbuf x)⟩

/-- A change of CP0 alone in the reporting registers. -/
theorem AccessStep.setCp0 {s t : State} {c : Cp0} (h : AccessStep s t)
    (hc : { c with watchHi := t.cp0.watchHi, cause := t.cp0.cause, tagLo := t.cp0.tagLo, dataLo := t.cp0.dataLo } = t.cp0)
    (ok : Cp0Ok t → Cp0Ok (t.withCp0 c)) : AccessStep s (t.withCp0 c) :=
  h.trans ⟨rfl, hc, ok, id, id⟩

theorem BusStep.access {s t : State} (h : BusStep s t) : AccessStep s t := by
  have hp : t.params = s.params := congrArg CoreView.params h.core
  have hc : t.cp0 = s.cp0 := congrArg CoreView.cp0 h.core
  have hi : t.icache = s.icache := congrArg CoreView.icache h.core
  have hd : t.dcache = s.dcache := congrArg CoreView.dcache h.core
  refine ⟨?_, by rw [hc], ?_, ?_, h.wbuf⟩
  · exact (congrArg (fun v : CoreView => ({ v with icache := s.icache, dcache := s.dcache, cp0 := s.cp0, drseg := s.drseg }
      : CoreView)) h.core)
  · intro x
    cases x
    constructor <;> (first | rw [hc, hp] | rw [hc]) <;> assumption
  · exact fun x => ⟨h.mem x.1, h.io x.2.1, by rw [hi]; exact x.2.2.1, by rw [hd]; exact x.2.2.2⟩

theorem AccessStep.bus {s t u : State} (h : AccessStep s t) (k : BusStep t u) : AccessStep s u := h.trans k.access

theorem AccessStep.drawn {s t : State} {n : Nat} (h : AccessStep s t) : AccessStep s (t.drawn n) :=
  h.bus (BusStep.refl t).drawn

theorem AccessStep.all {s t : State} {r : Res α} (h : AccessStep s t) (k : r.All (BusStep t)) : r.All (AccessStep s) :=
  k.mono fun _ x => h.bus x

theorem AccessStep.drseg {s t : State} {d : Drseg} (h : AccessStep s t) : AccessStep s { t with drseg := d } :=
  h.trans ⟨rfl, rfl, fun ⟨a, b, c, d, e, f, g, h, i, j, k, l, m, n, o, p, q, r⟩ => ⟨a, b, c, d, e, f, g, h, i, j, k, l, m, n, o, p, q, r⟩,
    id, id⟩

theorem AccessStep.ejtag {s t : State} {e : Ejtag} (h : AccessStep s t) : AccessStep s { t with ejtag := e } :=
  h.trans ⟨rfl, rfl, fun ⟨a, b, c, d, e, f, g, h, i, j, k, l, m, n, o, p, q, r⟩ => ⟨a, b, c, d, e, f, g, h, i, j, k, l, m, n, o, p, q, r⟩,
    id, id⟩

theorem AccessStep.setDline {s t : State} {k : Nat} {l : CacheLine} (h : AccessStep s t) : AccessStep s (t.setDline k l) :=
  h.trans ⟨rfl, rfl, fun ⟨a, b, c, d, e, f, g, h, i, j, k, l, m, n, o, p, q, r⟩ => ⟨a, b, c, d, e, f, g, h, i, j, k, l, m, n, o, p, q, r⟩,
    fun x => ⟨x.1, x.2.1, x.2.2.1, Sparse.wf_set _ _ _ x.2.2.2⟩, id⟩

theorem AccessStep.setIline {s t : State} {k : Nat} {l : CacheLine} (h : AccessStep s t) : AccessStep s (t.setIline k l) :=
  h.trans ⟨rfl, rfl, fun ⟨a, b, c, d, e, f, g, h, i, j, k, l, m, n, o, p, q, r⟩ => ⟨a, b, c, d, e, f, g, h, i, j, k, l, m, n, o, p, q, r⟩,
    fun x => ⟨x.1, x.2.1, Sparse.wf_set _ _ _ x.2.2.1, x.2.2.2⟩, id⟩

/-! ### Caches -/

theorem writeBackDirty_access {s t : State} {set : Nat} {l : CacheLine} (h : AccessStep s t) :
    (writeBackDirty set l t).All (AccessStep s) := by
  unfold writeBackDirty writeBack
  split
  · split
    · exact h.all (coreWriteWords_bus (BusStep.refl t))
    · exact True.intro
  · exact h

theorem cachedAccess_access {s t : State} {pa : Nat} {k : State → Res α} (hk : (k t).All (AccessStep s)) :
    (cachedAccess pa k t).All (AccessStep s) := by
  unfold cachedAccess
  split; exacts [hk, True.intro]

theorem dRefill_access {s t : State} {pa : Nat} (h : AccessStep s t) : (dRefill pa t).All (AccessStep s) :=
  (writeBackDirty_access h.drawn).bind fun _ _ h1 =>
    (h1.all (coreReadWords_bus (BusStep.refl _))).bind fun _ _ h2 => h2.setDline

theorem dLookup_access {s t : State} {pa : Nat} (h : AccessStep s t) : (dLookup pa t).All (AccessStep s) := by
  refine cachedAccess_access ?_
  dsimp only
  split
  · exact h
  · exact dRefill_access h

theorem dcacheRead_access {s t : State} {n pa : Nat} (h : AccessStep s t) : (dcacheRead n pa t).All (AccessStep s) :=
  (dLookup_access h).bind fun _ _ h1 => h1

theorem updateLine_access {s t : State} {key pa : Nat} {bs : List Byte} {d : Bool} (h : AccessStep s t) :
    AccessStep s (updateLine key pa bs d t) := h.setDline

theorem updateHit_access {s t : State} {pa : Nat} {bs : List Byte} (h : AccessStep s t) :
    AccessStep s (updateHit pa bs t) := by
  unfold updateHit
  split; exacts [updateLine_access h, h]

theorem dcacheWrite_access {s t : State} {bs : List Byte} {pa : Nat} {c : BitVec 3} (h : AccessStep s t) :
    (dcacheWrite bs pa c t).All (AccessStep s) := by
  unfold dcacheWrite
  split
  · exact cachedAccess_access ((updateHit_access h).all (coreWrite_bus (BusStep.refl _)))
  · exact (dLookup_access h).bind fun _ _ h1 => updateLine_access h1

theorem iRefill_access {s t : State} {pa : Nat} (h : AccessStep s t) : (iRefill pa t).All (AccessStep s) :=
  (h.all (transferWords_bus (BusStep.refl t).drawn)).bind fun _ _ h1 => h1.setIline

theorem iLookup_access {s t : State} {pa : Nat} (h : AccessStep s t) : (iLookup pa t).All (AccessStep s) := by
  refine cachedAccess_access ?_
  dsimp only
  split
  · exact h
  · exact iRefill_access h

theorem icacheRead_access {s t : State} {pa : Nat} (h : AccessStep s t) : (icacheRead pa t).All (AccessStep s) :=
  (iLookup_access h).bind fun _ _ h1 => h1

/-! ### Translation and watch -/

/-- Translation changes nothing. -/
theorem translate_same {va : Word} {k : Kind} {s : State} : (translate va k s).All (· = s) := by
  unfold translate tlbLookup
  dsimp only
  repeat' split
  all_goals exact rfl

theorem translate_access {s t : State} {va : Word} {k : Kind} (h : AccessStep s t) : (translate va k t).All (AccessStep s) :=
  translate_same.mono fun _ e => e ▸ h

theorem Cp0Ok.watch {s : State} {k : Kind} (h : Cp0Ok s) :
    Cp0Ok (s.withCp0 { s.cp0 with watchHi := setBit s.cp0.watchHi k.watchBit true }) :=
  { h with watchHi := h.watchHi.setBit (by cases k <;> decide) }

theorem watchCheck_access {s t : State} {va : Word} {k : Kind} (h : AccessStep s t) :
    (watchCheck va k t).All (AccessStep s) := by
  unfold watchCheck
  dsimp only
  split
  · split
    · exact h.setCp0 rfl fun x => { x.watch (k := k) with cause := x.cause.setBit (by decide) }
    · exact h.setCp0 rfl fun x => x.watch
  · exact h

/-! ### Debug segment and breakpoints -/

theorem dmsegAccess_access {s t : State} {va : Word} {op : DmsegOp} (h : AccessStep s t) :
    (dmsegAccess va op t).All (AccessStep s) := by
  unfold dmsegAccess
  repeat' split
  all_goals first | exact h | exact h.ejtag

theorem dmsegLine_access {s t : State} {va : Word} (h : AccessStep s t) : (dmsegLine va t).All (AccessStep s) :=
  (dmsegAccess_access h).bind fun _ _ h1 => h1

theorem dmsegFetch_access {s t : State} {va : Word} (h : AccessStep s t) : (dmsegFetch va t).All (AccessStep s) := by
  unfold dmsegFetch
  refine Res.All.bind (P := AccessStep s) ?_ fun _ _ h1 => h1
  split
  · exact h
  · exact (dmsegLine_access h).bind fun _ _ h1 => h1.drawn.setIline

theorem dmsegLoad_access {s t : State} {va : Word} {n : Nat} (h : AccessStep s t) : (dmsegLoad va n t).All (AccessStep s) := by
  unfold dmsegLoad
  refine Res.All.bind (P := AccessStep s) ?_ fun _ _ h1 => h1
  split
  · exact h
  · exact (dmsegLine_access h).bind fun _ _ h1 => (writeBackDirty_access h1.drawn).bind fun _ _ h2 => h2.setDline

theorem dsegRead_access {s t : State} {va : Word} {n : Nat} (h : AccessStep s t) : (dsegRead va n t).All (AccessStep s) := by
  unfold dsegRead
  split
  · unfold drsegRead freeRead
    repeat' split
    all_goals first | exact h | exact h.drawn
  · split
    · exact dmsegLoad_access h
    · exact (dmsegAccess_access h).bind fun _ _ h1 => h1

theorem dsegFetch_access {s t : State} {va : Word} (h : AccessStep s t) : (dsegFetch va t).All (AccessStep s) := by
  unfold dsegFetch
  split; exacts [dmsegFetch_access h, dsegRead_access h]

theorem dsegWrite_access {s t : State} {va : Word} {n : Nat} {v : Word} (h : AccessStep s t) :
    (dsegWrite va n v t).All (AccessStep s) := by
  unfold dsegWrite drsegWrite
  split
  · split
    · exact h.drseg
    · exact h
  · refine (dmsegAccess_access h).bind fun _ _ h1 => ?_
    show AccessStep s (if _ then _ else _)
    split; exacts [updateHit_access h1, h1]

theorem ibCheck_access {s t : State} (h : AccessStep s t) : (ibCheck t).All (AccessStep s) := by
  unfold ibCheck
  dsimp only
  repeat' split
  all_goals first | exact h | exact h.drseg

theorem dbTake_access {s t : State} {k : Kind} (h : AccessStep s t) : (dbTake k t).All (AccessStep s) := by
  unfold dbTake
  dsimp only
  split <;> exact h.drseg

/-! ### The access primitives -/

theorem prepare_access {s t : State} {k : Kind} {va : Word} {l : Lanes} (h : AccessStep s t) :
    (prepare k va l t).All (AccessStep s) :=
  (translate_access h).bind fun _ _ h1 => (watchCheck_access h1).bind fun _ _ h2 => by
    refine Res.All.bind (P := AccessStep s) ?_ fun _ _ h3 => h3
    split
    · exact dbTake_access h2
    · exact h2

theorem readLanes_access {s t : State} {va : Word} {l : Lanes} (h : AccessStep s t) :
    (readLanes va l t).All (AccessStep s) := by
  unfold readLanes
  split
  · exact (dsegRead_access h).bind fun _ _ h1 => h1
  · refine (prepare_access h).bind fun p u h1 => Res.All.bind (P := AccessStep s) ?_ fun bs w h2 => ?_
    · split
      · exact h1.all (coreRead_bus (BusStep.refl _))
      · exact dcacheRead_access h1
    · refine Res.All.bind (P := AccessStep s) ?_ fun _ _ h3 => h3
      split
      · exact dbTake_access h2
      · exact h2

theorem writeLanes_access {s t : State} {va : Word} {l : Lanes} {v : Word} (h : AccessStep s t) :
    (writeLanes va l v t).All (AccessStep s) := by
  unfold writeLanes
  split
  · exact dsegWrite_access h
  · refine (prepare_access h).bind fun p u h1 => Res.All.bind (P := AccessStep s) ?_ fun bs w h2 => ?_
    · split
      · exact dbTake_access h1
      · exact h1
    · split
      · exact h2.all (coreWrite_bus (BusStep.refl _))
      · exact dcacheWrite_access h2

theorem memReadPa_access {s t : State} {va : Word} {n : Nat} (h : AccessStep s t) : (memReadPa va n t).All (AccessStep s) := by
  unfold memReadPa
  split; exacts [readLanes_access h, h]

theorem memRead_access {s t : State} {va : Word} {n : Nat} (h : AccessStep s t) : (memRead va n t).All (AccessStep s) :=
  (memReadPa_access h).bind fun _ _ h1 => h1

theorem memWrite_access {s t : State} {va : Word} {n : Nat} {v : Word} (h : AccessStep s t) :
    (memWrite va n v t).All (AccessStep s) := by
  unfold memWrite
  split; exacts [writeLanes_access h, h]

theorem fetch_access {s t : State} (h : AccessStep s t) : (fetch t).All (AccessStep s) := by
  unfold fetch
  split
  · exact h
  · split
    · exact h
    · split
      · exact dsegFetch_access h
      · unfold fetchMemory
        refine (translate_access h).bind fun p u h1 => (ibCheck_access h1).bind fun _ _ h2 =>
          (watchCheck_access h2).bind fun _ _ h3 => Res.All.bind (P := AccessStep s) ?_ fun _ _ h4 => h4
        split
        · exact h3.all (coreRead_bus (BusStep.refl _))
        · exact icacheRead_access h3

/-! ### CACHE and SYNCI -/

theorem onHit_access {s t : State} {o : Option Nat} {f : Nat → State → Res Unit} (h : AccessStep s t)
    (hf : ∀ k, (f k t).All (AccessStep s)) : (onHit o f t).All (AccessStep s) := by
  unfold onHit
  split; exacts [h, hf _]

theorem dClean_access {s t : State} {key set : Nat} (h : AccessStep s t) : (dClean key set t).All (AccessStep s) :=
  (writeBackDirty_access h).bind fun _ u h1 => by
    show AccessStep s (if _ then _ else _)
    split; exacts [h1.setDline, h1]

theorem iFill_access {s t : State} {pa : Nat} (h : AccessStep s t) : (iFill pa t).All (AccessStep s) := by
  refine cachedAccess_access (Res.All.bind (P := AccessStep s) ?_ fun _ _ h1 => h1)
  split
  · exact iRefill_access h
  · exact (h.all (transferWords_bus (BusStep.refl t))).bind fun _ _ h1 => h1.setIline

theorem dirtyBits_within {l : CacheLine} {w : Word} : Within 0xC (dirtyBits l w) := by
  unfold dirtyBits
  split
  · have h : w.toNat % 3 < 3 := Nat.mod_lt _ (by decide)
    revert h
    generalize w.toNat % 3 = n
    intro h
    match n, h with
    | 0, _ => decide
    | 1, _ => decide
    | 2, _ => decide
  · exact Within.zero

theorem tagLoOf_within {l : CacheLine} {u : Word} (hu : Within 0xC u) : Within 0xFFFFFC0F (tagLoOf l u) := by
  have h0 : Within 0xFFFFFC0F ((l.tag ++ 0#10 : BitVec 32)) := by
    show (l.tag ++ 0#10 : BitVec 32) &&& 0x3F0#32 = 0#32
    have hm : ∀ j : Fin 32, ¬ j.val < 10 → (0x3F0#32).getLsbD j.val = false := by decide
    apply BitVec.eq_of_getLsbD_eq
    intro i hi
    by_cases h : i < 10
    · rw [BitVec.getLsbD_and, BitVec.getLsbD_append]
      simp [h]
    · rw [BitVec.getLsbD_and, hm ⟨i, hi⟩ h]
      simp
  have hu' : Within 0xFFFFFC0F u := by
    have e : u &&& ~~~(0xFFFFFC0F#32) = (u &&& ~~~(0xC#32)) &&& ~~~(0xFFFFFC0F#32) := by
      rw [BitVec.and_assoc]; rfl
    show u &&& ~~~(0xFFFFFC0F#32) = 0#32
    rw [e, show u &&& ~~~(0xC#32) = 0#32 from hu]
    simp
  have hf : ∀ b, Within 0xFFFFFC0F (flag b 1) ∧ Within 0xFFFFFC0F (flag b 0) := by decide
  exact ((h0.or hu').or (hf _).1).or (hf _).2

theorem loadTag_access {s t : State} {l : CacheLine} {u ea : Word} (h : AccessStep s t) (hu : Within 0xC u) :
    AccessStep s (loadTag l u ea t) :=
  h.setCp0 rfl fun x => { x with tagLo := tagLoOf_within hu }

theorem cacheEffect_access {s t : State} {op : BitVec 5} {ea : Word} {pa : Nat} (h : AccessStep s t) :
    (cacheEffect op ea pa t).All (AccessStep s) := by
  unfold cacheEffect
  dsimp only
  split
  · exact h.setIline
  · exact loadTag_access h Within.zero
  · exact h.setIline
  · exact onHit_access h fun _ => h.setIline
  · exact iFill_access h
  · exact iFill_access h
  · exact (dClean_access h).bind fun _ _ h1 => h1.setDline
  · exact loadTag_access h.drawn dirtyBits_within
  · exact h.setDline
  · exact onHit_access h fun _ => h.setDline
  · exact onHit_access h fun _ => (dClean_access h).bind fun _ _ h1 => h1.setDline
  · exact onHit_access h fun _ => dClean_access h
  · exact (dLookup_access h).bind fun _ _ h1 => h1
  · exact h

theorem synciEffect_access {s t : State} {pa : Nat} (h : AccessStep s t) : (synciEffect pa t).All (AccessStep s) :=
  (onHit_access h fun _ => dClean_access h).bind fun _ _ h1 => onHit_access h1 fun _ => h1.setIline

end Sys2Proof.Machine
end

