-- ==== Sys2Proof/Laws/Ops.lean ====
section
/-! SUPPORT. What the shared operations do, said once: register writes, results, taking an exception, accesses without an
event. -/

namespace Sys2Proof.Machine

/-! ### Registers and results -/

theorem State.reg_zero (s : State) : s.reg 0#5 = 0 := rfl

/-- Reading a register after a write; register 0 stays 0. -/
theorem State.reg_setReg (s : State) (rd : Reg) (v : Word) (r : Reg) :
    (s.setReg rd v).reg r = if r = rd ∧ rd ≠ 0#5 then v else s.reg r := by
  unfold State.setReg
  by_cases hz : rd = 0#5
  · simp [hz]
  · unfold State.reg
    by_cases hr : r = rd
    · subst hr; simp [hz]
    · have hn : rd.toNat ≠ r.toNat := fun e => hr (BitVec.eq_of_toNat_eq e.symm)
      simp [hz, hr, Vector.getElem_set_ne _ _ hn]

/-- A register write changes the general registers alone. -/
theorem State.setReg_rest (s : State) (rd : Reg) (v : Word) : s.setReg rd v = { s with gpr := (s.setReg rd v).gpr } := by
  unfold State.setReg
  split <;> rfl

theorem State.setReg_memByte (s : State) (rd : Reg) (v : Word) (k : Nat) : (s.setReg rd v).memByte k = s.memByte k := by
  rw [State.setReg_rest]; rfl

theorem State.retire_reg (s : State) (r : Reg) : s.retire.reg r = s.reg r := rfl

theorem Wrote.intro (s : State) (rd : Reg) (v : Word) : Wrote rd v s (s.setReg rd v).retire where
  regs r := (State.retire_reg _ r).trans (State.reg_setReg s rd v r)
  advanced := ⟨by rw [State.setReg_rest]; rfl, rfl, rfl⟩
  memory k := State.setReg_memByte s rd v k
  rest := by
    unfold State.setReg
    split <;> rfl

/-- `writeResult` answers a next state in which `rd` holds the result. -/
theorem writeResult_next (rd : Reg) (v : Word) (s : State) : Next (writeResult rd v s) (Wrote rd v s) :=
  ⟨_, rfl, Wrote.intro s rd v⟩

theorem done_next (s : State) : Next (done s) (OnlyAdvanced s) := ⟨_, rfl, ⟨rfl, rfl, rfl⟩, rfl⟩

theorem writeHiLo_next (p : BitVec 64) (s : State) :
    Next (writeHiLo p s) (WroteHiLo (p.extractLsb' 32 32) (p.extractLsb' 0 32) s) :=
  ⟨_, rfl, rfl, rfl, ⟨rfl, rfl, rfl⟩, fun _ => rfl, rfl⟩

theorem Next.mono {o : Out} {P Q : State → Prop} (h : Next o P) (k : ∀ t, P t → Q t) : Next o Q :=
  let ⟨t, e, ht⟩ := h
  ⟨t, e, k t ht⟩

/-! ### Branches -/

theorem branch_next (taken : Bool) (off : Imm16) (s : State) (h : s.inDelaySlot = false) :
    Next (branch taken off s) (Branched taken (branchTarget s.pc off) s) :=
  ⟨_, if_neg (by simp [h]), by cases taken <;> rfl⟩

theorem branchLikely_next (taken : Bool) (off : Imm16) (s : State) (h : s.inDelaySlot = false) :
    Next (branchLikely taken off s) (BranchedLikely taken (branchTarget s.pc off) s) :=
  ⟨_, if_neg (by simp [h]), by cases taken <;> rfl⟩

theorem jump_next (a : Word) (s : State) (h : s.inDelaySlot = false) : Next (jump a s) (Branched true a s) :=
  ⟨_, if_neg (by simp [h]), rfl⟩

/-! ### Taking an exception (R470) -/

variable (e : Exc) (s : State)

theorem takeException_outside (h : s.dm = false) : takeException e s = exceptionEntry e s := by simp [takeException, h]

@[simp] theorem takeException_gpr : (takeException e s).gpr = s.gpr := by unfold takeException; split <;> rfl
@[simp] theorem takeException_hi : (takeException e s).hi = s.hi := by unfold takeException; split <;> rfl
@[simp] theorem takeException_lo : (takeException e s).lo = s.lo := by unfold takeException; split <;> rfl
@[simp] theorem takeException_tlb : (takeException e s).tlb = s.tlb := by unfold takeException; split <;> rfl
@[simp] theorem takeException_mem : (takeException e s).mem = s.mem := by unfold takeException; split <;> rfl
@[simp] theorem takeException_wbuf : (takeException e s).wbuf = s.wbuf := by unfold takeException; split <;> rfl
@[simp] theorem takeException_pending : (takeException e s).pending = none := by unfold takeException; split <;> rfl
@[simp] theorem takeException_inDelaySlot : (takeException e s).inDelaySlot = false := by unfold takeException; split <;> rfl

/-- An exception changes CP0, the pc and the delay-slot state alone. -/
theorem takeException_rest :
    takeException e s = { s with cp0 := (takeException e s).cp0, pc := (takeException e s).pc, pending := none,
                                 inDelaySlot := false } := by
  unfold takeException
  split <;> rfl

/-! ### Accesses without an event -/

variable {va pa : Word} {c : BitVec 3} {n key : Nat} {s : State}

theorem PlainAccess.noDb {k : Kind} (h : PlainAccess k va pa c s) (l : Lanes) (v : Word) (b : Kind) : dbAddrMatch b v l s = false := by
  obtain ⟨h0, h2⟩ := h.noBreak
  simp [dbAddrMatch, breakEnabled, h0, h2]

theorem PlainAccess.prepare {k : Kind} (h : PlainAccess k va pa c s) (l : Lanes) : prepare k va l s = .ok (pa, c) s := by
  simp [Machine.prepare, h.translated, Res.bind, watchCheck, h.noWatch, h.noDb]

/-- An empty write buffer drains at once. -/
theorem drainAll_nil (h : s.wbuf = []) : drainAll s = .ok () s := by
  unfold drainAll
  rw [h]
  rfl

/-- Without events between the transfers a read transfer is a bus read. -/
theorem transferRead_alone {m a : Nat} (h : s.between = []) : transferRead m a s = busRead m a s := by
  unfold transferRead
  rw [agentsMove_alone h]
  rfl

/-- Without other agents a step is a step of the core, after which its stores leave the write buffer. -/
theorem step_alone (h : s.agenda = []) : step s = settled true (stepCore s) := by
  unfold step
  rw [h]

/-- A core that has its clock and no reset request runs. -/
theorem stepCore_running (hr : s.resetReq = none) (hp : s.powerMode = .normal) (hd : bit (s.ioGet Adr.LCR) 2 = false) :
    stepCore s = onNext (completed s) (stepRunning s) := by
  have e1 : wakeClocks s = s := by unfold wakeClocks; simp [hp]
  have e2 : wakeDoze s = s := by unfold wakeDoze; simp [hd]
  have e3 : coreStopped s = false := by unfold coreStopped; simp [hp, hd]
  unfold stepCore
  rw [hr]
  dsimp only
  rw [e1, e2, e3]
  rfl

/-- A read of a memory cell needs no NAND strobe. -/
theorem readRoute_cell {m k : Nat} {kind : RegionKind} (h : route s m = .cell k kind) : readRoute s m = .cell k kind := by
  simp [readRoute, h]

/-- A write of a memory cell needs no NAND strobe. -/
theorem writeRoute_cell {m k : Nat} {kind : RegionKind} (h : route s m = .cell k kind) : writeRoute s m = .cell k kind := by
  simp [writeRoute, h]

/-- R120: a load without an event answers the cells' bytes and changes nothing. -/
theorem readLanes_plain (l : Lanes) (h : UncachedAccess .load va pa s) (hw : s.wbuf = []) (ha : s.between = [])
    {kind : RegionKind} (hb : BackedBy s (l.addr pa) key kind) : readLanes va l s = .ok (s.value (s.memBytes key l.n), pa) s := by
  obtain ⟨c, hc, h⟩ := h
  have hp := h.prepare l
  unfold readLanes
  simp [h.notDseg, hp, Res.bind, hc, coreRead, drainAll_nil hw, transferRead_alone ha, busRead, readRoute_cell hb, h.noDb]

theorem memReadPa_plain (h : LoadsFrom va n key s pa) : memReadPa va n s = .ok (s.value (s.memBytes key n), pa) s := by
  obtain ⟨kind, hb⟩ := h.backed
  unfold memReadPa
  rw [if_pos h.aligned, readLanes_plain (plainLanes s va n) h.plain h.drained h.alone hb]
  rfl

theorem memRead_plain (h : LoadsFrom va n key s pa) : memRead va n s = .ok (s.value (s.memBytes key n)) s := by
  unfold memRead
  rw [memReadPa_plain h]
  rfl

/-- R121: a store without an event enters the write buffer and changes nothing else. -/
theorem writeLanes_plain (l : Lanes) (v : Word) (h : UncachedAccess .store va pa s) (hw : s.wbuf.length < 16) :
    writeLanes va l v s = .ok () { s with wbuf := s.wbuf ++ [(l.addr pa, s.bytes l.n v)] } := by
  obtain ⟨c, hc, h⟩ := h
  have hp := h.prepare l
  unfold writeLanes
  simp [h.notDseg, hp, Res.bind, hc, coreWrite, hw, h.noDb]

theorem memWrite_plain (v : Word) (h : StoresTo va n s pa) :
    memWrite va n v s = .ok () { s with wbuf := s.wbuf ++ [((plainLanes s va n).addr pa, s.bytes n v)] } := by
  unfold memWrite
  rw [if_pos h.aligned, writeLanes_plain (plainLanes s va n) v h.plain h.room]
  rfl

end Sys2Proof.Machine
end

