-- ==== Sys2Proof/Laws/PerInstr.lean ====
section
/-! SUPPORT. One law per instruction: its encoding has the fixed fields of its row of the opcode table (30_encoding.md R161,
R171), whatever its operands. -/

namespace Sys2Proof.Laws

/-! ### The six formats as numbers -/

theorem append_toNat {m n : Nat} (x : BitVec m) (y : BitVec n) : (x ++ y).toNat = x.toNat * 2 ^ n + y.toNat := by
  rw [BitVec.toNat_append, Nat.shiftLeft_eq, Nat.mul_comm, Nat.two_pow_add_eq_or_of_lt y.isLt]

theorem rType_toNat (op : BitVec 6) (rs rt rd sa : BitVec 5) (fn : BitVec 6) : (rType op rs rt rd sa fn).toNat =
    op.toNat * 2 ^ 26 + rs.toNat * 2 ^ 21 + rt.toNat * 2 ^ 16 + rd.toNat * 2 ^ 11 + sa.toNat * 2 ^ 6 + fn.toNat := by
  simp only [rType, append_toNat]; omega

theorem iType_toNat (op : BitVec 6) (rs rt : BitVec 5) (imm : Imm16) :
    (iType op rs rt imm).toNat = op.toNat * 2 ^ 26 + rs.toNat * 2 ^ 21 + rt.toNat * 2 ^ 16 + imm.toNat := by
  simp only [iType, append_toNat]; omega

theorem jType_toNat (op : BitVec 6) (index : BitVec 26) : (jType op index).toNat = op.toNat * 2 ^ 26 + index.toNat := by
  simp only [jType, append_toNat]

theorem tType_toNat (rs rt : BitVec 5) (code : BitVec 10) (fn : BitVec 6) :
    (tType rs rt code fn).toNat = rs.toNat * 2 ^ 21 + rt.toNat * 2 ^ 16 + code.toNat * 2 ^ 6 + fn.toNat := by
  simp only [tType, append_toNat, BitVec.toNat_ofNat]; omega

theorem cType_toNat (op : BitVec 6) (code : BitVec 20) (fn : BitVec 6) :
    (cType op code fn).toNat = op.toNat * 2 ^ 26 + code.toNat * 2 ^ 6 + fn.toNat := by
  simp only [cType, append_toNat]; omega

theorem wType_toNat (code : BitVec 19) (fn : BitVec 6) :
    (wType code fn).toNat = 0x10 * 2 ^ 26 + 2 ^ 25 + code.toNat * 2 ^ 6 + fn.toNat := by
  simp only [wType, append_toNat, BitVec.toNat_ofNat]; omega

theorem mType_toNat (rs rt rd : BitVec 5) (sel : BitVec 3) : (mType rs rt rd sel).toNat =
    0x10 * 2 ^ 26 + rs.toNat * 2 ^ 21 + rt.toNat * 2 ^ 16 + rd.toNat * 2 ^ 11 + sel.toNat := by
  simp only [mType, append_toNat, BitVec.toNat_ofNat]; omega

/-! ### The fixed fields of the opcode table -/

/-- The fixed fields of an instruction's row: lowest bit, width, value. -/
def Pattern.fixed : Instr → List (Nat × Nat × Nat)
  | .add _ _ _ => [(0, 11, 0x20), (26, 6, 0x0)]
  | .addi _ _ _ => [(26, 6, 0x8)]
  | .addu _ _ _ => [(0, 11, 0x21), (26, 6, 0x0)]
  | .addiu _ _ _ => [(26, 6, 0x9)]
  | .sub _ _ _ => [(0, 11, 0x22), (26, 6, 0x0)]
  | .slti _ _ _ => [(26, 6, 0xA)]
  | .subu _ _ _ => [(0, 11, 0x23), (26, 6, 0x0)]
  | .sltiu _ _ _ => [(26, 6, 0xB)]
  | .and _ _ _ => [(0, 11, 0x24), (26, 6, 0x0)]
  | .andi _ _ _ => [(26, 6, 0xC)]
  | .or _ _ _ => [(0, 11, 0x25), (26, 6, 0x0)]
  | .ori _ _ _ => [(26, 6, 0xD)]
  | .xor _ _ _ => [(0, 11, 0x26), (26, 6, 0x0)]
  | .xori _ _ _ => [(26, 6, 0xE)]
  | .nor _ _ _ => [(0, 11, 0x27), (26, 6, 0x0)]
  | .lui _ _ => [(21, 11, 0x1E0)]
  | .slt _ _ _ => [(0, 11, 0x2A), (26, 6, 0x0)]
  | .sltu _ _ _ => [(0, 11, 0x2B), (26, 6, 0x0)]
  | .movz _ _ _ => [(0, 11, 0xA), (26, 6, 0x0)]
  | .movn _ _ _ => [(0, 11, 0xB), (26, 6, 0x0)]
  | .clz _ _ _ => [(0, 11, 0x20), (26, 6, 0x1C)]
  | .clo _ _ _ => [(0, 11, 0x21), (26, 6, 0x1C)]
  | .seb _ _ => [(0, 11, 0x420), (21, 11, 0x3E0)]
  | .seh _ _ => [(0, 11, 0x620), (21, 11, 0x3E0)]
  | .wsbh _ _ => [(0, 11, 0xA0), (21, 11, 0x3E0)]
  | .ext _ _ _ _ => [(0, 6, 0x0), (26, 6, 0x1F)]
  | .ins _ _ _ _ => [(0, 6, 0x4), (26, 6, 0x1F)]
  | .sll _ _ _ => [(0, 6, 0x0), (21, 11, 0x0)]
  | .sllv _ _ _ => [(0, 11, 0x4), (26, 6, 0x0)]
  | .srl _ _ _ => [(0, 6, 0x2), (21, 11, 0x0)]
  | .srlv _ _ _ => [(0, 11, 0x6), (26, 6, 0x0)]
  | .sra _ _ _ => [(0, 6, 0x3), (21, 11, 0x0)]
  | .srav _ _ _ => [(0, 11, 0x7), (26, 6, 0x0)]
  | .rotr _ _ _ => [(0, 6, 0x2), (21, 11, 0x1)]
  | .rotrv _ _ _ => [(0, 11, 0x46), (26, 6, 0x0)]
  | .mult _ _ => [(0, 16, 0x18), (26, 6, 0x0)]
  | .multu _ _ => [(0, 16, 0x19), (26, 6, 0x0)]
  | .div _ _ => [(0, 16, 0x1A), (26, 6, 0x0)]
  | .divu _ _ => [(0, 16, 0x1B), (26, 6, 0x0)]
  | .mfhi _ => [(0, 11, 0x10), (16, 16, 0x0)]
  | .mthi _ => [(0, 21, 0x11), (26, 6, 0x0)]
  | .mflo _ => [(0, 11, 0x12), (16, 16, 0x0)]
  | .mtlo _ => [(0, 21, 0x13), (26, 6, 0x0)]
  | .mul _ _ _ => [(0, 11, 0x2), (26, 6, 0x1C)]
  | .madd _ _ => [(0, 16, 0x0), (26, 6, 0x1C)]
  | .maddu _ _ => [(0, 16, 0x1), (26, 6, 0x1C)]
  | .msub _ _ => [(0, 16, 0x4), (26, 6, 0x1C)]
  | .msubu _ _ => [(0, 16, 0x5), (26, 6, 0x1C)]
  | .j _ => [(26, 6, 0x2)]
  | .jal _ => [(26, 6, 0x3)]
  | .jr _ _ => [(0, 6, 0x8), (11, 10, 0x0), (26, 6, 0x0)]
  | .jalr _ _ _ => [(0, 6, 0x9), (16, 5, 0x0), (26, 6, 0x0)]
  | .beq _ _ _ => [(26, 6, 0x4)]
  | .bne _ _ _ => [(26, 6, 0x5)]
  | .blez _ _ => [(16, 5, 0x0), (26, 6, 0x6)]
  | .bgtz _ _ => [(16, 5, 0x0), (26, 6, 0x7)]
  | .beql _ _ _ => [(26, 6, 0x14)]
  | .bnel _ _ _ => [(26, 6, 0x15)]
  | .blezl _ _ => [(16, 5, 0x0), (26, 6, 0x16)]
  | .bgtzl _ _ => [(16, 5, 0x0), (26, 6, 0x17)]
  | .bltz _ _ => [(16, 5, 0x0), (26, 6, 0x1)]
  | .bgez _ _ => [(16, 5, 0x1), (26, 6, 0x1)]
  | .bltzl _ _ => [(16, 5, 0x2), (26, 6, 0x1)]
  | .bgezl _ _ => [(16, 5, 0x3), (26, 6, 0x1)]
  | .bltzal _ _ => [(16, 5, 0x10), (26, 6, 0x1)]
  | .bgezal _ _ => [(16, 5, 0x11), (26, 6, 0x1)]
  | .bltzall _ _ => [(16, 5, 0x12), (26, 6, 0x1)]
  | .bgezall _ _ => [(16, 5, 0x13), (26, 6, 0x1)]
  | .lb _ _ _ => [(26, 6, 0x20)]
  | .lbu _ _ _ => [(26, 6, 0x24)]
  | .lh _ _ _ => [(26, 6, 0x21)]
  | .lhu _ _ _ => [(26, 6, 0x25)]
  | .lw _ _ _ => [(26, 6, 0x23)]
  | .lwl _ _ _ => [(26, 6, 0x22)]
  | .lwr _ _ _ => [(26, 6, 0x26)]
  | .ll _ _ _ => [(26, 6, 0x30)]
  | .sb _ _ _ => [(26, 6, 0x28)]
  | .sh _ _ _ => [(26, 6, 0x29)]
  | .sw _ _ _ => [(26, 6, 0x2B)]
  | .swl _ _ _ => [(26, 6, 0x2A)]
  | .swr _ _ _ => [(26, 6, 0x2E)]
  | .sc _ _ _ => [(26, 6, 0x38)]
  | .pref _ _ _ => [(26, 6, 0x33)]
  | .cache _ _ _ => [(26, 6, 0x2F)]
  | .sync _ => [(0, 6, 0xF), (11, 21, 0x0)]
  | .synci _ _ => [(16, 5, 0x1F), (26, 6, 0x1)]
  | .tge _ _ _ => [(0, 6, 0x30), (26, 6, 0x0)]
  | .tgeu _ _ _ => [(0, 6, 0x31), (26, 6, 0x0)]
  | .tlt _ _ _ => [(0, 6, 0x32), (26, 6, 0x0)]
  | .tltu _ _ _ => [(0, 6, 0x33), (26, 6, 0x0)]
  | .teq _ _ _ => [(0, 6, 0x34), (26, 6, 0x0)]
  | .tne _ _ _ => [(0, 6, 0x36), (26, 6, 0x0)]
  | .tgei _ _ => [(16, 5, 0x8), (26, 6, 0x1)]
  | .tgeiu _ _ => [(16, 5, 0x9), (26, 6, 0x1)]
  | .tlti _ _ => [(16, 5, 0xA), (26, 6, 0x1)]
  | .tltiu _ _ => [(16, 5, 0xB), (26, 6, 0x1)]
  | .teqi _ _ => [(16, 5, 0xC), (26, 6, 0x1)]
  | .tnei _ _ => [(16, 5, 0xE), (26, 6, 0x1)]
  | .syscall _ => [(0, 6, 0xC), (26, 6, 0x0)]
  | .brk _ => [(0, 6, 0xD), (26, 6, 0x0)]
  | .sdbbp _ => [(0, 6, 0x3F), (26, 6, 0x1C)]
  | .mfc0 _ _ _ => [(3, 8, 0x0), (21, 11, 0x200)]
  | .mtc0 _ _ _ => [(3, 8, 0x0), (21, 11, 0x204)]
  | .rdpgpr _ _ => [(0, 11, 0x0), (21, 11, 0x20A)]
  | .wrpgpr _ _ => [(0, 11, 0x0), (21, 11, 0x20E)]
  | .di _ => [(0, 16, 0x6000), (21, 11, 0x20B)]
  | .ei _ => [(0, 16, 0x6020), (21, 11, 0x20B)]
  | .rdhwr _ _ => [(0, 11, 0x3B), (21, 11, 0x3E0)]
  | .tlbr => [(0, 32, 0x42000001)]
  | .tlbwi => [(0, 32, 0x42000002)]
  | .tlbwr => [(0, 32, 0x42000006)]
  | .tlbp => [(0, 32, 0x42000008)]
  | .eret => [(0, 32, 0x42000018)]
  | .deret => [(0, 32, 0x4200001F)]
  | .wait _ => [(0, 6, 0x20), (25, 7, 0x21)]
  | .cop1 _ => [(26, 6, 0x11)]
  | .cop2 _ => [(26, 6, 0x12)]
  | .cop1x _ => [(26, 6, 0x13)]
  | .lwc1 _ => [(26, 6, 0x31)]
  | .lwc2 _ => [(26, 6, 0x32)]
  | .ldc1 _ => [(26, 6, 0x35)]
  | .ldc2 _ => [(26, 6, 0x36)]
  | .swc1 _ => [(26, 6, 0x39)]
  | .swc2 _ => [(26, 6, 0x3A)]
  | .sdc1 _ => [(26, 6, 0x3D)]
  | .sdc2 _ => [(26, 6, 0x3E)]
  | .movci _ => [(0, 6, 0x1), (26, 6, 0x0)]

/-- The word of `i` holds the value of every fixed field of its row. -/
def Pattern.Statement (i : Instr) : Prop :=
  ∀ f ∈ Pattern.fixed i, (encode i).toNat / 2 ^ f.1 % 2 ^ f.2.1 = f.2.2

theorem Pattern.of {i : Instr} (l : List (Nat × Nat × Nat)) (w : Word) (hl : Pattern.fixed i = l) (hw : encode i = w)
    (h : ∀ f ∈ l, w.toNat / 2 ^ f.1 % 2 ^ f.2.1 = f.2.2) : Pattern.Statement i := by
  intro f hf
  rw [hl] at hf
  rw [hw]
  exact h f hf

theorem Pattern.add (rd rs rt : Reg) : Pattern.Statement (.add rd rs rt) :=
  Pattern.of [(0, 11, 0x20), (26, 6, 0x0)] (rType 0x00#6 rs rt rd 0#5 0x20#6) rfl rfl (by simp [rType_toNat]; omega)
theorem Pattern.addi (rt rs : Reg) (imm : Imm16) : Pattern.Statement (.addi rt rs imm) :=
  Pattern.of [(26, 6, 0x8)] (iType 0x08#6 rs rt imm) rfl rfl (by simp [iType_toNat]; omega)
theorem Pattern.addu (rd rs rt : Reg) : Pattern.Statement (.addu rd rs rt) :=
  Pattern.of [(0, 11, 0x21), (26, 6, 0x0)] (rType 0x00#6 rs rt rd 0#5 0x21#6) rfl rfl (by simp [rType_toNat]; omega)
theorem Pattern.addiu (rt rs : Reg) (imm : Imm16) : Pattern.Statement (.addiu rt rs imm) :=
  Pattern.of [(26, 6, 0x9)] (iType 0x09#6 rs rt imm) rfl rfl (by simp [iType_toNat]; omega)
theorem Pattern.sub (rd rs rt : Reg) : Pattern.Statement (.sub rd rs rt) :=
  Pattern.of [(0, 11, 0x22), (26, 6, 0x0)] (rType 0x00#6 rs rt rd 0#5 0x22#6) rfl rfl (by simp [rType_toNat]; omega)
theorem Pattern.slti (rt rs : Reg) (imm : Imm16) : Pattern.Statement (.slti rt rs imm) :=
  Pattern.of [(26, 6, 0xA)] (iType 0x0A#6 rs rt imm) rfl rfl (by simp [iType_toNat]; omega)
theorem Pattern.subu (rd rs rt : Reg) : Pattern.Statement (.subu rd rs rt) :=
  Pattern.of [(0, 11, 0x23), (26, 6, 0x0)] (rType 0x00#6 rs rt rd 0#5 0x23#6) rfl rfl (by simp [rType_toNat]; omega)
theorem Pattern.sltiu (rt rs : Reg) (imm : Imm16) : Pattern.Statement (.sltiu rt rs imm) :=
  Pattern.of [(26, 6, 0xB)] (iType 0x0B#6 rs rt imm) rfl rfl (by simp [iType_toNat]; omega)
theorem Pattern.and (rd rs rt : Reg) : Pattern.Statement (.and rd rs rt) :=
  Pattern.of [(0, 11, 0x24), (26, 6, 0x0)] (rType 0x00#6 rs rt rd 0#5 0x24#6) rfl rfl (by simp [rType_toNat]; omega)
theorem Pattern.andi (rt rs : Reg) (imm : Imm16) : Pattern.Statement (.andi rt rs imm) :=
  Pattern.of [(26, 6, 0xC)] (iType 0x0C#6 rs rt imm) rfl rfl (by simp [iType_toNat]; omega)
theorem Pattern.or (rd rs rt : Reg) : Pattern.Statement (.or rd rs rt) :=
  Pattern.of [(0, 11, 0x25), (26, 6, 0x0)] (rType 0x00#6 rs rt rd 0#5 0x25#6) rfl rfl (by simp [rType_toNat]; omega)
theorem Pattern.ori (rt rs : Reg) (imm : Imm16) : Pattern.Statement (.ori rt rs imm) :=
  Pattern.of [(26, 6, 0xD)] (iType 0x0D#6 rs rt imm) rfl rfl (by simp [iType_toNat]; omega)
theorem Pattern.xor (rd rs rt : Reg) : Pattern.Statement (.xor rd rs rt) :=
  Pattern.of [(0, 11, 0x26), (26, 6, 0x0)] (rType 0x00#6 rs rt rd 0#5 0x26#6) rfl rfl (by simp [rType_toNat]; omega)
theorem Pattern.xori (rt rs : Reg) (imm : Imm16) : Pattern.Statement (.xori rt rs imm) :=
  Pattern.of [(26, 6, 0xE)] (iType 0x0E#6 rs rt imm) rfl rfl (by simp [iType_toNat]; omega)
theorem Pattern.nor (rd rs rt : Reg) : Pattern.Statement (.nor rd rs rt) :=
  Pattern.of [(0, 11, 0x27), (26, 6, 0x0)] (rType 0x00#6 rs rt rd 0#5 0x27#6) rfl rfl (by simp [rType_toNat]; omega)
theorem Pattern.lui (rt : Reg) (imm : Imm16) : Pattern.Statement (.lui rt imm) :=
  Pattern.of [(21, 11, 0x1E0)] (iType 0x0F#6 0#5 rt imm) rfl rfl (by simp [iType_toNat]; omega)
theorem Pattern.slt (rd rs rt : Reg) : Pattern.Statement (.slt rd rs rt) :=
  Pattern.of [(0, 11, 0x2A), (26, 6, 0x0)] (rType 0x00#6 rs rt rd 0#5 0x2A#6) rfl rfl (by simp [rType_toNat]; omega)
theorem Pattern.sltu (rd rs rt : Reg) : Pattern.Statement (.sltu rd rs rt) :=
  Pattern.of [(0, 11, 0x2B), (26, 6, 0x0)] (rType 0x00#6 rs rt rd 0#5 0x2B#6) rfl rfl (by simp [rType_toNat]; omega)
theorem Pattern.movz (rd rs rt : Reg) : Pattern.Statement (.movz rd rs rt) :=
  Pattern.of [(0, 11, 0xA), (26, 6, 0x0)] (rType 0x00#6 rs rt rd 0#5 0x0A#6) rfl rfl (by simp [rType_toNat]; omega)
theorem Pattern.movn (rd rs rt : Reg) : Pattern.Statement (.movn rd rs rt) :=
  Pattern.of [(0, 11, 0xB), (26, 6, 0x0)] (rType 0x00#6 rs rt rd 0#5 0x0B#6) rfl rfl (by simp [rType_toNat]; omega)
theorem Pattern.clz (rd rs rt : Reg) : Pattern.Statement (.clz rd rs rt) :=
  Pattern.of [(0, 11, 0x20), (26, 6, 0x1C)] (rType 0x1C#6 rs rt rd 0#5 0x20#6) rfl rfl (by simp [rType_toNat]; omega)
theorem Pattern.clo (rd rs rt : Reg) : Pattern.Statement (.clo rd rs rt) :=
  Pattern.of [(0, 11, 0x21), (26, 6, 0x1C)] (rType 0x1C#6 rs rt rd 0#5 0x21#6) rfl rfl (by simp [rType_toNat]; omega)
theorem Pattern.seb (rd rt : Reg) : Pattern.Statement (.seb rd rt) :=
  Pattern.of [(0, 11, 0x420), (21, 11, 0x3E0)] (rType 0x1F#6 0#5 rt rd 0x10#5 0x20#6) rfl rfl (by simp [rType_toNat]; omega)
theorem Pattern.seh (rd rt : Reg) : Pattern.Statement (.seh rd rt) :=
  Pattern.of [(0, 11, 0x620), (21, 11, 0x3E0)] (rType 0x1F#6 0#5 rt rd 0x18#5 0x20#6) rfl rfl (by simp [rType_toNat]; omega)
theorem Pattern.wsbh (rd rt : Reg) : Pattern.Statement (.wsbh rd rt) :=
  Pattern.of [(0, 11, 0xA0), (21, 11, 0x3E0)] (rType 0x1F#6 0#5 rt rd 0x02#5 0x20#6) rfl rfl (by simp [rType_toNat]; omega)
theorem Pattern.ext (rt rs : Reg) (msbd lsb : BitVec 5) : Pattern.Statement (.ext rt rs msbd lsb) :=
  Pattern.of [(0, 6, 0x0), (26, 6, 0x1F)] (rType 0x1F#6 rs rt msbd lsb 0x00#6) rfl rfl (by simp [rType_toNat]; omega)
theorem Pattern.ins (rt rs : Reg) (msb lsb : BitVec 5) : Pattern.Statement (.ins rt rs msb lsb) :=
  Pattern.of [(0, 6, 0x4), (26, 6, 0x1F)] (rType 0x1F#6 rs rt msb lsb 0x04#6) rfl rfl (by simp [rType_toNat]; omega)
theorem Pattern.sll (rd rt : Reg) (sa : BitVec 5) : Pattern.Statement (.sll rd rt sa) :=
  Pattern.of [(0, 6, 0x0), (21, 11, 0x0)] (rType 0x00#6 0#5 rt rd sa 0x00#6) rfl rfl (by simp [rType_toNat]; omega)
theorem Pattern.sllv (rd rt rs : Reg) : Pattern.Statement (.sllv rd rt rs) :=
  Pattern.of [(0, 11, 0x4), (26, 6, 0x0)] (rType 0x00#6 rs rt rd 0#5 0x04#6) rfl rfl (by simp [rType_toNat]; omega)
theorem Pattern.srl (rd rt : Reg) (sa : BitVec 5) : Pattern.Statement (.srl rd rt sa) :=
  Pattern.of [(0, 6, 0x2), (21, 11, 0x0)] (rType 0x00#6 0#5 rt rd sa 0x02#6) rfl rfl (by simp [rType_toNat]; omega)
theorem Pattern.srlv (rd rt rs : Reg) : Pattern.Statement (.srlv rd rt rs) :=
  Pattern.of [(0, 11, 0x6), (26, 6, 0x0)] (rType 0x00#6 rs rt rd 0#5 0x06#6) rfl rfl (by simp [rType_toNat]; omega)
theorem Pattern.sra (rd rt : Reg) (sa : BitVec 5) : Pattern.Statement (.sra rd rt sa) :=
  Pattern.of [(0, 6, 0x3), (21, 11, 0x0)] (rType 0x00#6 0#5 rt rd sa 0x03#6) rfl rfl (by simp [rType_toNat]; omega)
theorem Pattern.srav (rd rt rs : Reg) : Pattern.Statement (.srav rd rt rs) :=
  Pattern.of [(0, 11, 0x7), (26, 6, 0x0)] (rType 0x00#6 rs rt rd 0#5 0x07#6) rfl rfl (by simp [rType_toNat]; omega)
theorem Pattern.rotr (rd rt : Reg) (sa : BitVec 5) : Pattern.Statement (.rotr rd rt sa) :=
  Pattern.of [(0, 6, 0x2), (21, 11, 0x1)] (rType 0x00#6 1#5 rt rd sa 0x02#6) rfl rfl (by simp [rType_toNat]; omega)
theorem Pattern.rotrv (rd rt rs : Reg) : Pattern.Statement (.rotrv rd rt rs) :=
  Pattern.of [(0, 11, 0x46), (26, 6, 0x0)] (rType 0x00#6 rs rt rd 1#5 0x06#6) rfl rfl (by simp [rType_toNat]; omega)
theorem Pattern.mult (rs rt : Reg) : Pattern.Statement (.mult rs rt) :=
  Pattern.of [(0, 16, 0x18), (26, 6, 0x0)] (rType 0x00#6 rs rt 0#5 0#5 0x18#6) rfl rfl (by simp [rType_toNat]; omega)
theorem Pattern.multu (rs rt : Reg) : Pattern.Statement (.multu rs rt) :=
  Pattern.of [(0, 16, 0x19), (26, 6, 0x0)] (rType 0x00#6 rs rt 0#5 0#5 0x19#6) rfl rfl (by simp [rType_toNat]; omega)
theorem Pattern.div (rs rt : Reg) : Pattern.Statement (.div rs rt) :=
  Pattern.of [(0, 16, 0x1A), (26, 6, 0x0)] (rType 0x00#6 rs rt 0#5 0#5 0x1A#6) rfl rfl (by simp [rType_toNat]; omega)
theorem Pattern.divu (rs rt : Reg) : Pattern.Statement (.divu rs rt) :=
  Pattern.of [(0, 16, 0x1B), (26, 6, 0x0)] (rType 0x00#6 rs rt 0#5 0#5 0x1B#6) rfl rfl (by simp [rType_toNat]; omega)
theorem Pattern.mfhi (rd : Reg) : Pattern.Statement (.mfhi rd) :=
  Pattern.of [(0, 11, 0x10), (16, 16, 0x0)] (rType 0x00#6 0#5 0#5 rd 0#5 0x10#6) rfl rfl (by simp [rType_toNat]; omega)
theorem Pattern.mthi (rs : Reg) : Pattern.Statement (.mthi rs) :=
  Pattern.of [(0, 21, 0x11), (26, 6, 0x0)] (rType 0x00#6 rs 0#5 0#5 0#5 0x11#6) rfl rfl (by simp [rType_toNat]; omega)
theorem Pattern.mflo (rd : Reg) : Pattern.Statement (.mflo rd) :=
  Pattern.of [(0, 11, 0x12), (16, 16, 0x0)] (rType 0x00#6 0#5 0#5 rd 0#5 0x12#6) rfl rfl (by simp [rType_toNat]; omega)
theorem Pattern.mtlo (rs : Reg) : Pattern.Statement (.mtlo rs) :=
  Pattern.of [(0, 21, 0x13), (26, 6, 0x0)] (rType 0x00#6 rs 0#5 0#5 0#5 0x13#6) rfl rfl (by simp [rType_toNat]; omega)
theorem Pattern.mul (rd rs rt : Reg) : Pattern.Statement (.mul rd rs rt) :=
  Pattern.of [(0, 11, 0x2), (26, 6, 0x1C)] (rType 0x1C#6 rs rt rd 0#5 0x02#6) rfl rfl (by simp [rType_toNat]; omega)
theorem Pattern.madd (rs rt : Reg) : Pattern.Statement (.madd rs rt) :=
  Pattern.of [(0, 16, 0x0), (26, 6, 0x1C)] (rType 0x1C#6 rs rt 0#5 0#5 0x00#6) rfl rfl (by simp [rType_toNat]; omega)
theorem Pattern.maddu (rs rt : Reg) : Pattern.Statement (.maddu rs rt) :=
  Pattern.of [(0, 16, 0x1), (26, 6, 0x1C)] (rType 0x1C#6 rs rt 0#5 0#5 0x01#6) rfl rfl (by simp [rType_toNat]; omega)
theorem Pattern.msub (rs rt : Reg) : Pattern.Statement (.msub rs rt) :=
  Pattern.of [(0, 16, 0x4), (26, 6, 0x1C)] (rType 0x1C#6 rs rt 0#5 0#5 0x04#6) rfl rfl (by simp [rType_toNat]; omega)
theorem Pattern.msubu (rs rt : Reg) : Pattern.Statement (.msubu rs rt) :=
  Pattern.of [(0, 16, 0x5), (26, 6, 0x1C)] (rType 0x1C#6 rs rt 0#5 0#5 0x05#6) rfl rfl (by simp [rType_toNat]; omega)
theorem Pattern.j (index : BitVec 26) : Pattern.Statement (.j index) :=
  Pattern.of [(26, 6, 0x2)] (jType 0x02#6 index) rfl rfl (by simp [jType_toNat]; omega)
theorem Pattern.jal (index : BitVec 26) : Pattern.Statement (.jal index) :=
  Pattern.of [(26, 6, 0x3)] (jType 0x03#6 index) rfl rfl (by simp [jType_toNat]; omega)
theorem Pattern.jr (rs : Reg) (hint : BitVec 5) : Pattern.Statement (.jr rs hint) :=
  Pattern.of [(0, 6, 0x8), (11, 10, 0x0), (26, 6, 0x0)] (rType 0x00#6 rs 0#5 0#5 hint 0x08#6) rfl rfl (by simp [rType_toNat]; omega)
theorem Pattern.jalr (rd rs : Reg) (hint : BitVec 5) : Pattern.Statement (.jalr rd rs hint) :=
  Pattern.of [(0, 6, 0x9), (16, 5, 0x0), (26, 6, 0x0)] (rType 0x00#6 rs 0#5 rd hint 0x09#6) rfl rfl (by simp [rType_toNat]; omega)
theorem Pattern.beq (rs rt : Reg) (off : Imm16) : Pattern.Statement (.beq rs rt off) :=
  Pattern.of [(26, 6, 0x4)] (iType 0x04#6 rs rt off) rfl rfl (by simp [iType_toNat]; omega)
theorem Pattern.bne (rs rt : Reg) (off : Imm16) : Pattern.Statement (.bne rs rt off) :=
  Pattern.of [(26, 6, 0x5)] (iType 0x05#6 rs rt off) rfl rfl (by simp [iType_toNat]; omega)
theorem Pattern.blez (rs : Reg) (off : Imm16) : Pattern.Statement (.blez rs off) :=
  Pattern.of [(16, 5, 0x0), (26, 6, 0x6)] (iType 0x06#6 rs 0#5 off) rfl rfl (by simp [iType_toNat]; omega)
theorem Pattern.bgtz (rs : Reg) (off : Imm16) : Pattern.Statement (.bgtz rs off) :=
  Pattern.of [(16, 5, 0x0), (26, 6, 0x7)] (iType 0x07#6 rs 0#5 off) rfl rfl (by simp [iType_toNat]; omega)
theorem Pattern.beql (rs rt : Reg) (off : Imm16) : Pattern.Statement (.beql rs rt off) :=
  Pattern.of [(26, 6, 0x14)] (iType 0x14#6 rs rt off) rfl rfl (by simp [iType_toNat]; omega)
theorem Pattern.bnel (rs rt : Reg) (off : Imm16) : Pattern.Statement (.bnel rs rt off) :=
  Pattern.of [(26, 6, 0x15)] (iType 0x15#6 rs rt off) rfl rfl (by simp [iType_toNat]; omega)
theorem Pattern.blezl (rs : Reg) (off : Imm16) : Pattern.Statement (.blezl rs off) :=
  Pattern.of [(16, 5, 0x0), (26, 6, 0x16)] (iType 0x16#6 rs 0#5 off) rfl rfl (by simp [iType_toNat]; omega)
theorem Pattern.bgtzl (rs : Reg) (off : Imm16) : Pattern.Statement (.bgtzl rs off) :=
  Pattern.of [(16, 5, 0x0), (26, 6, 0x17)] (iType 0x17#6 rs 0#5 off) rfl rfl (by simp [iType_toNat]; omega)
theorem Pattern.bltz (rs : Reg) (off : Imm16) : Pattern.Statement (.bltz rs off) :=
  Pattern.of [(16, 5, 0x0), (26, 6, 0x1)] (iType 0x01#6 rs 0x00#5 off) rfl rfl (by simp [iType_toNat]; omega)
theorem Pattern.bgez (rs : Reg) (off : Imm16) : Pattern.Statement (.bgez rs off) :=
  Pattern.of [(16, 5, 0x1), (26, 6, 0x1)] (iType 0x01#6 rs 0x01#5 off) rfl rfl (by simp [iType_toNat]; omega)
theorem Pattern.bltzl (rs : Reg) (off : Imm16) : Pattern.Statement (.bltzl rs off) :=
  Pattern.of [(16, 5, 0x2), (26, 6, 0x1)] (iType 0x01#6 rs 0x02#5 off) rfl rfl (by simp [iType_toNat]; omega)
theorem Pattern.bgezl (rs : Reg) (off : Imm16) : Pattern.Statement (.bgezl rs off) :=
  Pattern.of [(16, 5, 0x3), (26, 6, 0x1)] (iType 0x01#6 rs 0x03#5 off) rfl rfl (by simp [iType_toNat]; omega)
theorem Pattern.bltzal (rs : Reg) (off : Imm16) : Pattern.Statement (.bltzal rs off) :=
  Pattern.of [(16, 5, 0x10), (26, 6, 0x1)] (iType 0x01#6 rs 0x10#5 off) rfl rfl (by simp [iType_toNat]; omega)
theorem Pattern.bgezal (rs : Reg) (off : Imm16) : Pattern.Statement (.bgezal rs off) :=
  Pattern.of [(16, 5, 0x11), (26, 6, 0x1)] (iType 0x01#6 rs 0x11#5 off) rfl rfl (by simp [iType_toNat]; omega)
theorem Pattern.bltzall (rs : Reg) (off : Imm16) : Pattern.Statement (.bltzall rs off) :=
  Pattern.of [(16, 5, 0x12), (26, 6, 0x1)] (iType 0x01#6 rs 0x12#5 off) rfl rfl (by simp [iType_toNat]; omega)
theorem Pattern.bgezall (rs : Reg) (off : Imm16) : Pattern.Statement (.bgezall rs off) :=
  Pattern.of [(16, 5, 0x13), (26, 6, 0x1)] (iType 0x01#6 rs 0x13#5 off) rfl rfl (by simp [iType_toNat]; omega)
theorem Pattern.lb (rt base : Reg) (off : Imm16) : Pattern.Statement (.lb rt base off) :=
  Pattern.of [(26, 6, 0x20)] (iType 0x20#6 base rt off) rfl rfl (by simp [iType_toNat]; omega)
theorem Pattern.lbu (rt base : Reg) (off : Imm16) : Pattern.Statement (.lbu rt base off) :=
  Pattern.of [(26, 6, 0x24)] (iType 0x24#6 base rt off) rfl rfl (by simp [iType_toNat]; omega)
theorem Pattern.lh (rt base : Reg) (off : Imm16) : Pattern.Statement (.lh rt base off) :=
  Pattern.of [(26, 6, 0x21)] (iType 0x21#6 base rt off) rfl rfl (by simp [iType_toNat]; omega)
theorem Pattern.lhu (rt base : Reg) (off : Imm16) : Pattern.Statement (.lhu rt base off) :=
  Pattern.of [(26, 6, 0x25)] (iType 0x25#6 base rt off) rfl rfl (by simp [iType_toNat]; omega)
theorem Pattern.lw (rt base : Reg) (off : Imm16) : Pattern.Statement (.lw rt base off) :=
  Pattern.of [(26, 6, 0x23)] (iType 0x23#6 base rt off) rfl rfl (by simp [iType_toNat]; omega)
theorem Pattern.lwl (rt base : Reg) (off : Imm16) : Pattern.Statement (.lwl rt base off) :=
  Pattern.of [(26, 6, 0x22)] (iType 0x22#6 base rt off) rfl rfl (by simp [iType_toNat]; omega)
theorem Pattern.lwr (rt base : Reg) (off : Imm16) : Pattern.Statement (.lwr rt base off) :=
  Pattern.of [(26, 6, 0x26)] (iType 0x26#6 base rt off) rfl rfl (by simp [iType_toNat]; omega)
theorem Pattern.ll (rt base : Reg) (off : Imm16) : Pattern.Statement (.ll rt base off) :=
  Pattern.of [(26, 6, 0x30)] (iType 0x30#6 base rt off) rfl rfl (by simp [iType_toNat]; omega)
theorem Pattern.sb (rt base : Reg) (off : Imm16) : Pattern.Statement (.sb rt base off) :=
  Pattern.of [(26, 6, 0x28)] (iType 0x28#6 base rt off) rfl rfl (by simp [iType_toNat]; omega)
theorem Pattern.sh (rt base : Reg) (off : Imm16) : Pattern.Statement (.sh rt base off) :=
  Pattern.of [(26, 6, 0x29)] (iType 0x29#6 base rt off) rfl rfl (by simp [iType_toNat]; omega)
theorem Pattern.sw (rt base : Reg) (off : Imm16) : Pattern.Statement (.sw rt base off) :=
  Pattern.of [(26, 6, 0x2B)] (iType 0x2B#6 base rt off) rfl rfl (by simp [iType_toNat]; omega)
theorem Pattern.swl (rt base : Reg) (off : Imm16) : Pattern.Statement (.swl rt base off) :=
  Pattern.of [(26, 6, 0x2A)] (iType 0x2A#6 base rt off) rfl rfl (by simp [iType_toNat]; omega)
theorem Pattern.swr (rt base : Reg) (off : Imm16) : Pattern.Statement (.swr rt base off) :=
  Pattern.of [(26, 6, 0x2E)] (iType 0x2E#6 base rt off) rfl rfl (by simp [iType_toNat]; omega)
theorem Pattern.sc (rt base : Reg) (off : Imm16) : Pattern.Statement (.sc rt base off) :=
  Pattern.of [(26, 6, 0x38)] (iType 0x38#6 base rt off) rfl rfl (by simp [iType_toNat]; omega)
theorem Pattern.pref (hint : BitVec 5) (base : Reg) (off : Imm16) : Pattern.Statement (.pref hint base off) :=
  Pattern.of [(26, 6, 0x33)] (iType 0x33#6 base hint off) rfl rfl (by simp [iType_toNat]; omega)
theorem Pattern.cache (op : BitVec 5) (base : Reg) (off : Imm16) : Pattern.Statement (.cache op base off) :=
  Pattern.of [(26, 6, 0x2F)] (iType 0x2F#6 base op off) rfl rfl (by simp [iType_toNat]; omega)
theorem Pattern.sync (stype : BitVec 5) : Pattern.Statement (.sync stype) :=
  Pattern.of [(0, 6, 0xF), (11, 21, 0x0)] (rType 0x00#6 0#5 0#5 0#5 stype 0x0F#6) rfl rfl (by simp [rType_toNat]; omega)
theorem Pattern.synci (base : Reg) (off : Imm16) : Pattern.Statement (.synci base off) :=
  Pattern.of [(16, 5, 0x1F), (26, 6, 0x1)] (iType 0x01#6 base 0x1F#5 off) rfl rfl (by simp [iType_toNat]; omega)
theorem Pattern.tge (rs rt : Reg) (code : BitVec 10) : Pattern.Statement (.tge rs rt code) :=
  Pattern.of [(0, 6, 0x30), (26, 6, 0x0)] (tType rs rt code 0x30#6) rfl rfl (by simp [tType_toNat]; omega)
theorem Pattern.tgeu (rs rt : Reg) (code : BitVec 10) : Pattern.Statement (.tgeu rs rt code) :=
  Pattern.of [(0, 6, 0x31), (26, 6, 0x0)] (tType rs rt code 0x31#6) rfl rfl (by simp [tType_toNat]; omega)
theorem Pattern.tlt (rs rt : Reg) (code : BitVec 10) : Pattern.Statement (.tlt rs rt code) :=
  Pattern.of [(0, 6, 0x32), (26, 6, 0x0)] (tType rs rt code 0x32#6) rfl rfl (by simp [tType_toNat]; omega)
theorem Pattern.tltu (rs rt : Reg) (code : BitVec 10) : Pattern.Statement (.tltu rs rt code) :=
  Pattern.of [(0, 6, 0x33), (26, 6, 0x0)] (tType rs rt code 0x33#6) rfl rfl (by simp [tType_toNat]; omega)
theorem Pattern.teq (rs rt : Reg) (code : BitVec 10) : Pattern.Statement (.teq rs rt code) :=
  Pattern.of [(0, 6, 0x34), (26, 6, 0x0)] (tType rs rt code 0x34#6) rfl rfl (by simp [tType_toNat]; omega)
theorem Pattern.tne (rs rt : Reg) (code : BitVec 10) : Pattern.Statement (.tne rs rt code) :=
  Pattern.of [(0, 6, 0x36), (26, 6, 0x0)] (tType rs rt code 0x36#6) rfl rfl (by simp [tType_toNat]; omega)
theorem Pattern.tgei (rs : Reg) (imm : Imm16) : Pattern.Statement (.tgei rs imm) :=
  Pattern.of [(16, 5, 0x8), (26, 6, 0x1)] (iType 0x01#6 rs 0x08#5 imm) rfl rfl (by simp [iType_toNat]; omega)
theorem Pattern.tgeiu (rs : Reg) (imm : Imm16) : Pattern.Statement (.tgeiu rs imm) :=
  Pattern.of [(16, 5, 0x9), (26, 6, 0x1)] (iType 0x01#6 rs 0x09#5 imm) rfl rfl (by simp [iType_toNat]; omega)
theorem Pattern.tlti (rs : Reg) (imm : Imm16) : Pattern.Statement (.tlti rs imm) :=
  Pattern.of [(16, 5, 0xA), (26, 6, 0x1)] (iType 0x01#6 rs 0x0A#5 imm) rfl rfl (by simp [iType_toNat]; omega)
theorem Pattern.tltiu (rs : Reg) (imm : Imm16) : Pattern.Statement (.tltiu rs imm) :=
  Pattern.of [(16, 5, 0xB), (26, 6, 0x1)] (iType 0x01#6 rs 0x0B#5 imm) rfl rfl (by simp [iType_toNat]; omega)
theorem Pattern.teqi (rs : Reg) (imm : Imm16) : Pattern.Statement (.teqi rs imm) :=
  Pattern.of [(16, 5, 0xC), (26, 6, 0x1)] (iType 0x01#6 rs 0x0C#5 imm) rfl rfl (by simp [iType_toNat]; omega)
theorem Pattern.tnei (rs : Reg) (imm : Imm16) : Pattern.Statement (.tnei rs imm) :=
  Pattern.of [(16, 5, 0xE), (26, 6, 0x1)] (iType 0x01#6 rs 0x0E#5 imm) rfl rfl (by simp [iType_toNat]; omega)
theorem Pattern.syscall (code : BitVec 20) : Pattern.Statement (.syscall code) :=
  Pattern.of [(0, 6, 0xC), (26, 6, 0x0)] (cType 0x00#6 code 0x0C#6) rfl rfl (by simp [cType_toNat]; omega)
theorem Pattern.brk (code : BitVec 20) : Pattern.Statement (.brk code) :=
  Pattern.of [(0, 6, 0xD), (26, 6, 0x0)] (cType 0x00#6 code 0x0D#6) rfl rfl (by simp [cType_toNat]; omega)
theorem Pattern.sdbbp (code : BitVec 20) : Pattern.Statement (.sdbbp code) :=
  Pattern.of [(0, 6, 0x3F), (26, 6, 0x1C)] (cType 0x1C#6 code 0x3F#6) rfl rfl (by simp [cType_toNat]; omega)
theorem Pattern.mfc0 (rt rd : Reg) (sel : BitVec 3) : Pattern.Statement (.mfc0 rt rd sel) :=
  Pattern.of [(3, 8, 0x0), (21, 11, 0x200)] (mType 0x00#5 rt rd sel) rfl rfl (by simp [mType_toNat]; omega)
theorem Pattern.mtc0 (rt rd : Reg) (sel : BitVec 3) : Pattern.Statement (.mtc0 rt rd sel) :=
  Pattern.of [(3, 8, 0x0), (21, 11, 0x204)] (mType 0x04#5 rt rd sel) rfl rfl (by simp [mType_toNat]; omega)
theorem Pattern.rdpgpr (rd rt : Reg) : Pattern.Statement (.rdpgpr rd rt) :=
  Pattern.of [(0, 11, 0x0), (21, 11, 0x20A)] (rType 0x10#6 0x0A#5 rt rd 0#5 0x00#6) rfl rfl (by simp [rType_toNat]; omega)
theorem Pattern.wrpgpr (rd rt : Reg) : Pattern.Statement (.wrpgpr rd rt) :=
  Pattern.of [(0, 11, 0x0), (21, 11, 0x20E)] (rType 0x10#6 0x0E#5 rt rd 0#5 0x00#6) rfl rfl (by simp [rType_toNat]; omega)
theorem Pattern.di (rt : Reg) : Pattern.Statement (.di rt) :=
  Pattern.of [(0, 16, 0x6000), (21, 11, 0x20B)] (rType 0x10#6 0x0B#5 rt 0x0C#5 0#5 0x00#6) rfl rfl (by simp [rType_toNat]; omega)
theorem Pattern.ei (rt : Reg) : Pattern.Statement (.ei rt) :=
  Pattern.of [(0, 16, 0x6020), (21, 11, 0x20B)] (rType 0x10#6 0x0B#5 rt 0x0C#5 0#5 0x20#6) rfl rfl (by simp [rType_toNat]; omega)
theorem Pattern.rdhwr (rt rd : Reg) : Pattern.Statement (.rdhwr rt rd) :=
  Pattern.of [(0, 11, 0x3B), (21, 11, 0x3E0)] (rType 0x1F#6 0#5 rt rd 0#5 0x3B#6) rfl rfl (by simp [rType_toNat]; omega)
theorem Pattern.tlbr : Pattern.Statement (.tlbr) :=
  Pattern.of [(0, 32, 0x42000001)] (wType 0#19 0x01#6) rfl rfl (by decide)
theorem Pattern.tlbwi : Pattern.Statement (.tlbwi) :=
  Pattern.of [(0, 32, 0x42000002)] (wType 0#19 0x02#6) rfl rfl (by decide)
theorem Pattern.tlbwr : Pattern.Statement (.tlbwr) :=
  Pattern.of [(0, 32, 0x42000006)] (wType 0#19 0x06#6) rfl rfl (by decide)
theorem Pattern.tlbp : Pattern.Statement (.tlbp) :=
  Pattern.of [(0, 32, 0x42000008)] (wType 0#19 0x08#6) rfl rfl (by decide)
theorem Pattern.eret : Pattern.Statement (.eret) :=
  Pattern.of [(0, 32, 0x42000018)] (wType 0#19 0x18#6) rfl rfl (by decide)
theorem Pattern.deret : Pattern.Statement (.deret) :=
  Pattern.of [(0, 32, 0x4200001F)] (wType 0#19 0x1F#6) rfl rfl (by decide)
theorem Pattern.wait (code : BitVec 19) : Pattern.Statement (.wait code) :=
  Pattern.of [(0, 6, 0x20), (25, 7, 0x21)] (wType code 0x20#6) rfl rfl (by simp [wType_toNat]; omega)
theorem Pattern.cop1 (rest : BitVec 26) : Pattern.Statement (.cop1 rest) :=
  Pattern.of [(26, 6, 0x11)] (jType 0x11#6 rest) rfl rfl (by simp [jType_toNat]; omega)
theorem Pattern.cop2 (rest : BitVec 26) : Pattern.Statement (.cop2 rest) :=
  Pattern.of [(26, 6, 0x12)] (jType 0x12#6 rest) rfl rfl (by simp [jType_toNat]; omega)
theorem Pattern.cop1x (rest : BitVec 26) : Pattern.Statement (.cop1x rest) :=
  Pattern.of [(26, 6, 0x13)] (jType 0x13#6 rest) rfl rfl (by simp [jType_toNat]; omega)
theorem Pattern.lwc1 (rest : BitVec 26) : Pattern.Statement (.lwc1 rest) :=
  Pattern.of [(26, 6, 0x31)] (jType 0x31#6 rest) rfl rfl (by simp [jType_toNat]; omega)
theorem Pattern.lwc2 (rest : BitVec 26) : Pattern.Statement (.lwc2 rest) :=
  Pattern.of [(26, 6, 0x32)] (jType 0x32#6 rest) rfl rfl (by simp [jType_toNat]; omega)
theorem Pattern.ldc1 (rest : BitVec 26) : Pattern.Statement (.ldc1 rest) :=
  Pattern.of [(26, 6, 0x35)] (jType 0x35#6 rest) rfl rfl (by simp [jType_toNat]; omega)
theorem Pattern.ldc2 (rest : BitVec 26) : Pattern.Statement (.ldc2 rest) :=
  Pattern.of [(26, 6, 0x36)] (jType 0x36#6 rest) rfl rfl (by simp [jType_toNat]; omega)
theorem Pattern.swc1 (rest : BitVec 26) : Pattern.Statement (.swc1 rest) :=
  Pattern.of [(26, 6, 0x39)] (jType 0x39#6 rest) rfl rfl (by simp [jType_toNat]; omega)
theorem Pattern.swc2 (rest : BitVec 26) : Pattern.Statement (.swc2 rest) :=
  Pattern.of [(26, 6, 0x3A)] (jType 0x3A#6 rest) rfl rfl (by simp [jType_toNat]; omega)
theorem Pattern.sdc1 (rest : BitVec 26) : Pattern.Statement (.sdc1 rest) :=
  Pattern.of [(26, 6, 0x3D)] (jType 0x3D#6 rest) rfl rfl (by simp [jType_toNat]; omega)
theorem Pattern.sdc2 (rest : BitVec 26) : Pattern.Statement (.sdc2 rest) :=
  Pattern.of [(26, 6, 0x3E)] (jType 0x3E#6 rest) rfl rfl (by simp [jType_toNat]; omega)
theorem Pattern.movci (rest : BitVec 20) : Pattern.Statement (.movci rest) :=
  Pattern.of [(0, 6, 0x1), (26, 6, 0x0)] (cType 0x00#6 rest 0x01#6) rfl rfl (by simp [cType_toNat]; omega)

end Sys2Proof.Laws
end

