-- ==== Sys2Proof/Tests/Slice0.lean ====
section
/-! SUPPORT. Small tests: ill-formed operands, words of the rules decoded, single steps of the vectors of
spec/95_test_vectors.md, and for each statement with hypotheses a state that meets them. -/

namespace Sys2Proof.Tests

open Sys2Proof Sys2Proof.Machine

/-! ### Operands that WellFormed refuses (30_encoding.md R175, R176; 43_branch.md R321, R333) -/

theorem test_ill_formed_clz : (Instr.wellFormed (.clz 2 1 3)) = false := by decide
theorem test_ill_formed_clo : (Instr.wellFormed (.clo 2 1 3)) = false := by decide
theorem test_ill_formed_ext : (Instr.wellFormed (.ext 2 1 24 8)) = false := by decide
theorem test_ill_formed_ins : (Instr.wellFormed (.ins 2 1 7 8)) = false := by decide
theorem test_ill_formed_jr_hint : (Instr.wellFormed (.jr 31 1)) = false := by decide
theorem test_ill_formed_jalr_hint : (Instr.wellFormed (.jalr 31 4 8)) = false := by decide
theorem test_ill_formed_jalr_link : (Instr.wellFormed (.jalr 4 4 0)) = false := by decide
theorem test_ill_formed_bltzal : (Instr.wellFormed (.bltzal 31 1)) = false := by decide
theorem test_ill_formed_bgezal : (Instr.wellFormed (.bgezal 31 1)) = false := by decide
theorem test_ill_formed_bltzall : (Instr.wellFormed (.bltzall 31 1)) = false := by decide
theorem test_ill_formed_bgezall : (Instr.wellFormed (.bgezall 31 1)) = false := by decide

theorem test_well_formed_bounds : Instr.wellFormed (.ext 2 1 23 8) = true ∧ Instr.wellFormed (.ins 2 1 8 8) = true ∧
    Instr.wellFormed (.jr 31 16) = true := by decide

/-! ### Decoding: the words of the rules' examples, for every constructor -/

theorem test_decode_arithmetic :
    decode 0x00221820 = some (.add 3 1 2) ∧
    decode 0x2022FFFF = some (.addi 2 1 0xFFFF) ∧
    decode 0x00221821 = some (.addu 3 1 2) ∧
    decode 0x2422FFFF = some (.addiu 2 1 0xFFFF) ∧
    decode 0x00221822 = some (.sub 3 1 2) ∧
    decode 0x00221823 = some (.subu 3 1 2) ∧
    decode 0x2822FFFF = some (.slti 2 1 0xFFFF) ∧
    decode 0x2C22FFFF = some (.sltiu 2 1 0xFFFF) ∧
    decode 0x0022182A = some (.slt 3 1 2) ∧
    decode 0x0022182B = some (.sltu 3 1 2) := by decide

theorem test_decode_logic :
    decode 0x00221824 = some (.and 3 1 2) ∧
    decode 0x3022FF00 = some (.andi 2 1 0xFF00) ∧
    decode 0x00221825 = some (.or 3 1 2) ∧
    decode 0x342200FF = some (.ori 2 1 0x00FF) ∧
    decode 0x00221826 = some (.xor 3 1 2) ∧
    decode 0x3822FFFF = some (.xori 2 1 0xFFFF) ∧
    decode 0x00221827 = some (.nor 3 1 2) ∧
    decode 0x3C01BFC0 = some (.lui 1 0xBFC0) := by decide

theorem test_decode_moves_and_bits :
    decode 0x0022180A = some (.movz 3 1 2) ∧
    decode 0x0022180B = some (.movn 3 1 2) ∧
    decode 0x70221020 = some (.clz 2 1 2) ∧
    decode 0x70221021 = some (.clo 2 1 2) ∧
    decode 0x7C011420 = some (.seb 2 1) ∧
    decode 0x7C011620 = some (.seh 2 1) ∧
    decode 0x7C0110A0 = some (.wsbh 2 1) ∧
    decode 0x7C221A00 = some (.ext 2 1 3 8) ∧
    decode 0x7C225A04 = some (.ins 2 1 11 8) := by decide

theorem test_decode_shifts :
    decode 0x00011100 = some (.sll 2 1 4) ∧
    decode 0x00011102 = some (.srl 2 1 4) ∧
    decode 0x00011103 = some (.sra 2 1 4) ∧
    decode 0x00411804 = some (.sllv 3 1 2) ∧
    decode 0x00411806 = some (.srlv 3 1 2) ∧
    decode 0x00411807 = some (.srav 3 1 2) ∧
    decode 0x00211202 = some (.rotr 2 1 8) ∧
    decode 0x00411846 = some (.rotrv 3 1 2) := by decide

theorem test_decode_multiply_divide :
    decode 0x00220018 = some (.mult 1 2) ∧
    decode 0x00220019 = some (.multu 1 2) ∧
    decode 0x0022001A = some (.div 1 2) ∧
    decode 0x0022001B = some (.divu 1 2) ∧
    decode 0x00001810 = some (.mfhi 3) ∧
    decode 0x00001812 = some (.mflo 3) ∧
    decode 0x00200011 = some (.mthi 1) ∧
    decode 0x00200013 = some (.mtlo 1) := by decide

theorem test_decode_accumulate :
    decode 0x70221802 = some (.mul 3 1 2) ∧
    decode 0x70220000 = some (.madd 1 2) ∧
    decode 0x70220001 = some (.maddu 1 2) ∧
    decode 0x70220004 = some (.msub 1 2) ∧
    decode 0x70220005 = some (.msubu 1 2) := by decide

theorem test_decode_jumps :
    decode 0x08000400 = some (.j 0x400) ∧
    decode 0x0C000400 = some (.jal 0x400) ∧
    decode 0x03E00008 = some (.jr 31 0) ∧
    decode 0x03E00408 = some (.jr 31 16) ∧
    decode 0x0320F809 = some (.jalr 31 25 0) ∧
    decode 0x0080FC09 = some (.jalr 31 4 16) := by decide

theorem test_decode_branches :
    decode 0x10220003 = some (.beq 1 2 3) ∧
    decode 0x1420FFFE = some (.bne 1 0 0xFFFE) ∧
    decode 0x18200001 = some (.blez 1 1) ∧
    decode 0x1C200001 = some (.bgtz 1 1) ∧
    decode 0x04200001 = some (.bltz 1 1) ∧
    decode 0x04210001 = some (.bgez 1 1) ∧
    decode 0x04300001 = some (.bltzal 1 1) ∧
    decode 0x04110004 = some (.bgezal 0 4) := by decide

theorem test_decode_likely_branches :
    decode 0x50220003 = some (.beql 1 2 3) ∧
    decode 0x5420FFFE = some (.bnel 1 0 0xFFFE) ∧
    decode 0x58200001 = some (.blezl 1 1) ∧
    decode 0x5C200001 = some (.bgtzl 1 1) ∧
    decode 0x04220001 = some (.bltzl 1 1) ∧
    decode 0x04230001 = some (.bgezl 1 1) ∧
    decode 0x04320001 = some (.bltzall 1 1) ∧
    decode 0x04330001 = some (.bgezall 1 1) := by decide

theorem test_decode_loads :
    decode 0x80220003 = some (.lb 2 1 3) ∧
    decode 0x90220003 = some (.lbu 2 1 3) ∧
    decode 0x84220002 = some (.lh 2 1 2) ∧
    decode 0x94220002 = some (.lhu 2 1 2) ∧
    decode 0x8FA2FFFC = some (.lw 2 29 0xFFFC) ∧
    decode 0x88220003 = some (.lwl 2 1 3) ∧
    decode 0x98220000 = some (.lwr 2 1 0) ∧
    decode 0xC0820000 = some (.ll 2 4 0) := by decide

theorem test_decode_stores :
    decode 0xA0220000 = some (.sb 2 1 0) ∧
    decode 0xA4220002 = some (.sh 2 1 2) ∧
    decode 0xAFBF0014 = some (.sw 31 29 20) ∧
    decode 0xA8220003 = some (.swl 2 1 3) ∧
    decode 0xB8220000 = some (.swr 2 1 0) ∧
    decode 0xE0820000 = some (.sc 2 4 0) := by decide

theorem test_decode_cache_and_sync :
    decode 0x0000000F = some (.sync 0) ∧
    decode 0xCC800000 = some (.pref 0 4 0) ∧
    decode 0x049F0000 = some (.synci 4 0) ∧
    decode 0xBC890000 = some (.cache 0x09 4 0) ∧
    decode 0xBC950000 = some (.cache 0x15 4 0) := by decide

theorem test_decode_traps :
    decode 0x00220030 = some (.tge 1 2 0) ∧
    decode 0x00220031 = some (.tgeu 1 2 0) ∧
    decode 0x00220032 = some (.tlt 1 2 0) ∧
    decode 0x00220033 = some (.tltu 1 2 0) ∧
    decode 0x004001F4 = some (.teq 2 0 7) ∧
    decode 0x00220036 = some (.tne 1 2 0) ∧
    decode 0x04280005 = some (.tgei 1 5) ∧
    decode 0x04290005 = some (.tgeiu 1 5) ∧
    decode 0x042A0005 = some (.tlti 1 5) ∧
    decode 0x042B0005 = some (.tltiu 1 5) ∧
    decode 0x042C0005 = some (.teqi 1 5) ∧
    decode 0x042E0005 = some (.tnei 1 5) := by decide

theorem test_decode_calls :
    decode 0x0048D14C = some (.syscall 0x12345) ∧
    decode 0x0007000D = some (.brk 0x1C00) ∧
    decode 0x7000003F = some (.sdbbp 0) ∧
    decode 0x42000018 = some (.eret) ∧
    decode 0x4200001F = some (.deret) ∧
    decode 0x42000020 = some (.wait 0) ∧
    decode 0x7C03E83B = some (.rdhwr 3 29) := by decide

theorem test_decode_coprocessor_0 :
    decode 0x401A6800 = some (.mfc0 26 13 0) ∧
    decode 0x40028001 = some (.mfc0 2 16 1) ∧
    decode 0x40828007 = some (.mtc0 2 16 7) ∧
    decode 0x41626000 = some (.di 2) ∧
    decode 0x41606020 = some (.ei 0) ∧
    decode 0x41431000 = some (.rdpgpr 2 3) ∧
    decode 0x41C31000 = some (.wrpgpr 2 3) ∧
    decode 0x42000001 = some (.tlbr) ∧
    decode 0x42000002 = some (.tlbwi) ∧
    decode 0x42000006 = some (.tlbwr) ∧
    decode 0x42000008 = some (.tlbp) := by decide

theorem test_decode_absent_coprocessors :
    decode 0x46000000 = some (.cop1 0x2000000) ∧
    decode 0x48000000 = some (.cop2 0) ∧
    decode 0x4C000000 = some (.cop1x 0) ∧
    decode 0xC4820000 = some (.lwc1 0x0820000) ∧
    decode 0xC8820000 = some (.lwc2 0x0820000) ∧
    decode 0xD4820000 = some (.ldc1 0x0820000) ∧
    decode 0xD8820000 = some (.ldc2 0x0820000) ∧
    decode 0xE4820000 = some (.swc1 0x0820000) ∧
    decode 0xE8820000 = some (.swc2 0x0820000) ∧
    decode 0xF4820000 = some (.sdc1 0x0820000) ∧
    decode 0xF8820000 = some (.sdc2 0x0820000) ∧
    decode 0x00000001 = some (.movci 0) := by decide

/-- R174: a nonzero field that must be zero, an opcode of no row, JALX, a SPECIAL2 function of no row (spec/95 3.7.4). -/
theorem test_decode_none :
    decode 0x00221861 = none ∧ decode 0xFC000000 = none ∧ decode 0x74000000 = none ∧ decode 0x0000003F = none ∧
    decode 0x7000003E = none := by decide

/-- The table's numbering of bits: the one word of an instruction. -/
theorem test_decode_table_word : decodeTableWord 32 0x00221820 = some (.add 3 1 2) := by decide

/-! ### States -/

/-- The start state of spec/95: kernel mode, `pc` in kseg0, kseg0 uncached. -/
def kernel : State := { State.reset with cp0 := { State.reset.cp0 with status := 0 }, pc := 0x80001000 }

/-- `kernel` with registers 1 and 2. -/
def with12 (a b : Word) : State := (kernel.setReg 1 a).setReg 2 b

/-- User mode. -/
def user : State := { kernel with cp0 := { kernel.cp0 with status := 0x10 }, pc := 0x1000 }

/-- In a delay slot. -/
def slot : State := { kernel with inDelaySlot := true }

/-- Debug mode. -/
def inDebug : State := { kernel with cp0 := { kernel.cp0 with debug := 0x40000000 } }

/-- The data bytes of spec/95 at physical 0x2000, which register 1 addresses in kseg0 at an offset of 0. -/
def data : State := (with12 0x80002000 0xCAFEBABE).setMemBytes 0x20002000 [0x80, 0x91, 0xA2, 0xB3, 0x04, 0x15, 0x26, 0x37]

/-- `data` with the last word of the SDRAM bank addressed through kseg1. -/
def top : State := data.setReg 1 0xA7FFFFFC

/-- A TLB entry 0 for virtual 0x2000 to 0x3FFF: page 0 readable, page 1 invalid (spec/95 3.7.5). -/
def mapped : State :=
  { kernel.setTlb 0 { kernel.tlbAt 0 with vpn2 := 1, asid := 5, pfn0 := 0x20002, c0 := 2, v0 := true, pfn1 := 0x20003, c1 := 3, d1 := true }
    with cp0 := { kernel.cp0 with entryHi := 0x2005 } }

/-- kseg0 cached with attribute `k0`; the data cache line of set 0, way 0 holds physical 0x2000. -/
def cached (k0 : BitVec 3) : State :=
  { data.setDline 0 { CacheLine.empty with valid := true, tag := tagOf 0x2000 } with cp0 := { kernel.cp0 with k0 := k0 } }

/-- A field of the next state. -/
def after {α : Type} (o : Out) (f : State → α) : Option α :=
  match o with
  | .next t => some (f t)
  | .fault _ => none
  | .refused _ => none

/-! ### Single steps (spec/95 section 3) -/

theorem test_add_overflow : after (exec (.add 3 1 2) (with12 0x7FFFFFFF 1)) (fun t => (t.reg 3, t.cp0.cause, t.cp0.epc, t.pc)) =
    some (0, 0x30, 0x80001000, 0x80000180) := by decide

theorem test_add : after (exec (.add 3 1 2) (with12 5 0xFFFFFFFD)) (fun t => (t.reg 3, t.pc)) = some (2, 0x80001004) := by decide

theorem test_register_0 : after (exec (.addu 0 1 2) (with12 1 2)) (fun t => t.reg 0) = some 0 := by decide

theorem test_sltiu : after (exec (.sltiu 2 1 0xFFFF) (with12 0xFFFFFFFE 0)) (fun t => t.reg 2) = some 1 := by decide

theorem test_ins : after (exec (.ins 2 1 11 8) (with12 0x0F 0x12345078)) (fun t => t.reg 2) = some 0x12345F78 := by decide

theorem test_ext : after (exec (.ext 2 1 3 8) (with12 0x12345678 0)) (fun t => t.reg 2) = some 6 := by decide

theorem test_clz : after (exec (.clz 2 1 2) (with12 0x00010000 0)) (fun t => t.reg 2) = some 15 := by decide

theorem test_wsbh : after (exec (.wsbh 2 1) (with12 0x11223344 0)) (fun t => t.reg 2) = some 0x22114433 := by decide

theorem test_sra : after (exec (.sra 2 1 4) (with12 0xF000000F 0)) (fun t => t.reg 2) = some 0xFF000000 := by decide

theorem test_sllv_count : after (exec (.sllv 3 1 2) (with12 1 33)) (fun t => t.reg 3) = some 2 := by decide

theorem test_rotr : after (exec (.rotr 2 1 8) (with12 0x12345678 0)) (fun t => t.reg 2) = some 0x78123456 := by decide

theorem test_mult : after (exec (.mult 1 2) (with12 0xFFFFFFFF 2)) (fun t => (t.hi, t.lo)) = some (0xFFFFFFFF, 0xFFFFFFFE) := by
  decide

theorem test_div : after (exec (.div 1 2) (with12 7 0xFFFFFFFE)) (fun t => (t.hi, t.lo)) = some (1, 0xFFFFFFFD) := by decide

theorem test_div_overflow : after (exec (.div 1 2) (with12 0x80000000 0xFFFFFFFF)) (fun t => (t.hi, t.lo)) = some (0, 0x80000000) := by
  decide

theorem test_msubu : after (exec (.msubu 1 2) { with12 2 3 with hi := 1 }) (fun t => (t.hi, t.lo)) = some (0, 0xFFFFFFFA) := by
  decide

theorem test_beq : after (exec (.beq 1 2 3) (with12 5 5)) (fun t => (t.pc, t.pending, t.inDelaySlot)) =
    some (0x80001004, some 0x80001010, true) := by decide

theorem test_beql_not_taken : after (exec (.beql 1 2 3) (with12 5 6)) (fun t => (t.pc, t.pending)) = some (0x80001008, none) := by
  decide

theorem test_bltzal : after (exec (.bltzal 1 1) (with12 0 0)) (fun t => (t.reg 31, t.pending)) = some (0x80001008, none) := by decide

theorem test_j : after (exec (.j 0x3FFFFFF) { kernel with pc := 0x8FFFFFFC }) (fun t => t.pending) = some (some 0x9FFFFFFC) := by
  decide

theorem test_lb : after (exec (.lb 2 1 0) data) (fun t => t.reg 2) = some 0xFFFFFF80 := by decide

theorem test_lwl : after (exec (.lwl 2 1 3) data) (fun t => t.reg 2) = some 0xB3A29180 := by decide

theorem test_lwr_big : after (exec (.lwr 2 1 2) { data.setReg 2 0x11223344 with params := { data.params with bigEndian := true } })
    (fun t => t.reg 2) = some 0x118091A2 := by decide

theorem test_lh_misaligned : after (exec (.lh 2 1 1) data) (fun t => (t.cp0.cause, t.cp0.badVAddr)) = some (0x10, 0x80002001) := by
  decide

theorem test_swl : after (exec (.swl 2 1 5) data) (fun t => t.wbuf) = some [(0x2004, [0xFE, 0xCA])] := by decide

theorem test_ll : after (exec (.ll 2 1 4) data) (fun t => (t.reg 2, t.llBit, t.cp0.llAddr)) = some (0x37261504, true, 0x200) := by
  decide

theorem test_sc_fails : after (exec (.sc 2 1 0) data) (fun t => (t.reg 2, t.wbuf)) = some (0, []) := by decide

theorem test_syscall_bev : after (exec (.syscall 0) { kernel with cp0 := { kernel.cp0 with status := 0x00400000 } })
    (fun t => (t.cp0.status, t.cp0.cause, t.pc)) = some (0x00400002, 0x20, 0xBFC00380) := by decide

theorem test_user_mfc0 : after (exec (.mfc0 2 12 0) user) (fun t => (t.cp0.cause, t.cp0.status, t.pc)) =
    some (0x2C, 0x12, 0x80000180) := by decide

theorem test_lwc1 : after (exec (.lwc1 0) kernel) (fun t => t.cp0.cause) = some 0x1000002C := by decide

theorem test_eret_erl : after (exec .eret { kernel with cp0 := { kernel.cp0 with status := 6, errorEpc := 0xBFC00010 } })
    (fun t => (t.pc, t.cp0.status)) = some (0xBFC00010, 2) := by decide

theorem test_mtc0_status : after (exec (.mtc0 1 12 0) (with12 0xFFFFFFFF 0)) (fun t => t.cp0.status) = some 0x1A40FF17 := by decide

theorem test_tlbwi_overlap : after (exec .tlbwi { mapped with cp0 := { mapped.cp0 with index := 1 } })
    (fun t => (t.cp0.status, t.cp0.cause)) = some (0x00200002, 0x60) := by decide

theorem test_tlbp : after (exec .tlbp { mapped with cp0 := { mapped.cp0 with entryHi := 0x80006000 } }) (fun t => t.cp0.index) =
    some 3 := by decide

theorem test_load_through_tlb : after (exec (.lw 3 1 4) { mapped.setReg 1 0x2000 with mem := data.mem }) (fun t => t.reg 3) =
    some 0x37261504 := by decide

theorem test_modified : after (exec (.sw 2 1 0) (mapped.setReg 1 0x2000))
    (fun t => (t.cp0.cause, t.cp0.badVAddr, t.cp0.context, t.cp0.entryHi)) = some (4, 0x2000, 0x10, 0x2005) := by decide

theorem test_sdbbp : after (exec (.sdbbp 0) slot) (fun t => (t.cp0.depc, t.cp0.debug, t.pc)) = some (0x80000FFC, 0xC0000002, 0xBFC00480) := by
  decide

/-- A whole step: fetch at the reset vector, execute. -/
theorem test_step_from_reset : after (step (State.reset.withFetchWord 32 0x3C01BFC0)) (fun t => (t.reg 1, t.pc)) =
    some (0xBFC00000, 0xBFC00004) := by decide

/-- The first store of a step leaves the write buffer in it (log entry 11). -/
theorem test_step_store : after (step (data.withFetchWord 32 0xAC220004)) (fun t => (t.memByte 0x20002004, t.wbuf)) =
    some (0xBE, []) := by decide

/-! ### Hypotheses that concrete states meet -/

theorem witness_checked_arithmetic : (2 ^ 31 - 1 : Int) < 2 ^ 31 ∧ ¬((2 ^ 31 : Int) < 2 ^ 31) ∧
    (with12 0x7FFFFFFF 0).reg 1 = 0x7FFFFFFF := by decide

theorem witness_conditional_moves : kernel.reg 2 = 0 ∧ (with12 0 1).reg 2 ≠ 0 := by decide

theorem witness_bit_fields : (8#5).toNat + (23#5).toNat ≤ 31 ∧ 31 < (8#5).toNat + (24#5).toNat ∧ (8#5).toNat ≤ (8#5).toNat ∧
    (7#5).toNat < (8#5).toNat := by decide

theorem witness_division : (with12 0x80000000 0xFFFFFFFF).reg 2 ≠ 0 ∧ ((with12 0x80000000 0xFFFFFFFF).reg 1).toInt = -2 ^ 31 ∧
    ((with12 0x80000000 0xFFFFFFFF).reg 2).toInt = -1 ∧ kernel.reg 2 = 0 := by decide

theorem witness_branches : kernel.inDelaySlot = false ∧ slot.inDelaySlot = true ∧ slot.cp0Usable = true ∧
    ({ inDebug with inDelaySlot := true } : State).dm = true ∧ isBranch (.j 0) = true ∧ (4#5 : Reg) ≠ 31#5 := by decide

theorem witness_loads (n : Nat) (h : n ∈ [1, 2, 4]) : LoadsFrom (effAddr 1 0 data) n 0x20002000 data 0x2000 := by
  fin_cases h <;> exact ⟨rfl, ⟨2, rfl, rfl, rfl, rfl, rfl, rfl⟩, ⟨.ram, by unfold BackedBy; decide +kernel⟩, rfl, rfl⟩

theorem witness_loads_top : LoadsFrom (effAddr 1 0 top) 4 0x27FFFFFC top 0x07FFFFFC ∧
    LoadsFrom (effAddr 1 3 top) 1 0x27FFFFFF top 0x07FFFFFF :=
  ⟨⟨rfl, ⟨2, rfl, rfl, rfl, rfl, rfl, rfl⟩, ⟨.ram, by unfold BackedBy; decide +kernel⟩, rfl, rfl⟩,
   ⟨rfl, ⟨2, rfl, rfl, rfl, rfl, rfl, rfl⟩, ⟨.ram, by unfold BackedBy; decide +kernel⟩, rfl, rfl⟩⟩

theorem witness_stores (n : Nat) (h : n ∈ [1, 2, 4]) : StoresTo (effAddr 1 0 data) n data 0x2000 := by
  fin_cases h <;> exact ⟨rfl, ⟨2, rfl, rfl, rfl, rfl, rfl, rfl⟩, by decide⟩

theorem witness_store_conditional : StoresTo (effAddr 1 0 { data with llBit := true }) 4 { data with llBit := true } 0x2000 ∧
    data.llBit = false := ⟨⟨rfl, ⟨2, rfl, rfl, rfl, rfl, rfl, rfl⟩, by decide⟩, rfl⟩

theorem witness_sync : data.between = [] ∧ (∀ e ∈ ({ data with wbuf := [(0x2000, [1])] } : State).wbuf, ∃ key,
    BackedBy { data with wbuf := [(0x2000, [1])] } e.1 key .ram) ∧ Memory.wf data.mem = true := by
  refine ⟨rfl, fun e he => ⟨0x20002000, ?_⟩, by decide⟩
  rw [List.mem_singleton.1 he]; unfold BackedBy; decide +kernel

theorem witness_unaligned (k : Kind) (h : k ∈ [Kind.load, .store]) : WordAround k (effAddr 1 3 data) 0x2003 0x20002000 data ∧
    data.wbuf = [] ∧ Memory.wf data.mem = true := by
  refine ⟨⟨⟨2, rfl, ?_⟩, fun i hi => ?_, ?_⟩, rfl, by decide⟩
  · fin_cases h <;> exact ⟨rfl, rfl, rfl, rfl, rfl⟩
  · have : i = 0 ∨ i = 1 ∨ i = 2 ∨ i = 3 := by omega
    rcases this with rfl | rfl | rfl | rfl <;> (unfold BackedBy; decide +kernel)
  · rfl

theorem witness_cached_load : cacheable (cached 3) 0x2000 = true ∧ dHit 0x2000 (cached 3) = some 0 ∧
    PlainAccess .load (effAddr 1 0 (cached 3)) 0x2000 3 (cached 3) :=
  ⟨by decide +kernel, by decide, rfl, rfl, rfl, rfl, rfl⟩

theorem witness_cached_write_back : dHit 0x2000 (cached 3) = some 0 ∧ PlainAccess .store (effAddr 1 0 (cached 3)) 0x2000 3 (cached 3) ∧
    Sparse.wf lineDefault (cached 3).dcache = true ∧ (3#3 : BitVec 3) ∉ [0#3, 1, 2, 7] :=
  ⟨by decide, ⟨rfl, rfl, rfl, rfl, rfl⟩, by decide, by decide⟩

theorem witness_cached_write_through : cacheable (cached 0) 0x2000 = true ∧ dHit 0x2000 (cached 0) = some 0 ∧
    PlainAccess .store (effAddr 1 0 (cached 0)) 0x2000 0 (cached 0) ∧ BackedBy (cached 0) 0x2000 0x20002000 .ram ∧
    (cached 0).wbuf.length < 16 := ⟨by decide +kernel, by decide, ⟨rfl, rfl, rfl, rfl, rfl⟩, by unfold BackedBy; decide +kernel, by decide⟩

/-- `data` with kseg0 cached; the data cache is empty. -/
def uncachedLine : State := { data with cp0 := { kernel.cp0 with k0 := 3 } }

theorem witness_cached_miss : cacheable uncachedLine 0x2000 = true ∧ dHit 0x2000 uncachedLine = none ∧
    PlainAccess .load (effAddr 1 0 uncachedLine) 0x2000 3 uncachedLine ∧ Sparse.wf lineDefault uncachedLine.dcache = true ∧
    uncachedLine.wbuf = [] ∧ uncachedLine.between = [] ∧ (∀ w : Fin 4, (uncachedLine.dline w.val).valid = false) ∧
    ∀ i : Fin 8, BackedBy uncachedLine (0x2000 + 4 * i.val) (0x20002000 + 4 * i.val) .ram :=
  ⟨by decide +kernel, by decide, ⟨rfl, rfl, rfl, rfl, rfl⟩, by decide, rfl, rfl, by decide, by unfold BackedBy; decide +kernel⟩

theorem witness_misaligned : (effAddr 1 1 data).toNat % 2 ≠ 0 ∧ (effAddr 1 2 data).toNat % 4 ≠ 0 := by decide

/-- `data` with the watch register on its address, for loads and stores of every address space. -/
def watched : State := { data with cp0 := { data.cp0 with watchLo := 0x80002003, watchHi := 0x40000000 } }

theorem watched_bits (i : Nat) : bit (effAddr 1 0 watched) i = bit 0x80002000 i := rfl

theorem witness_watch : (effAddr 1 0 watched).toNat % 4 = 0 ∧ watched.dm = false ∧ watched.exl = false ∧ watched.erl = false ∧
    (∀ i, 3 ≤ i → i < 32 → bit 0x80002000 i = bit watched.cp0.watchLo i) ∧ bit watched.cp0.watchHi 30 = true ∧
    bit watched.cp0.watchLo 1 = true ∧ bit watched.cp0.watchLo 0 = true ∧
    (∃ t, translate (effAddr 1 0 watched) .load watched = .ok t watched) ∧
    (∃ t, translate (effAddr 1 0 watched) .store watched = .ok t watched) := by
  refine ⟨by decide, by decide, by decide, by decide, ?_, by decide, by decide, by decide, ⟨(0x2000, 2), rfl⟩, ⟨(0x2000, 2), rfl⟩⟩
  intro i h1 h2
  have : ∀ j : Fin 32, 3 ≤ j.val → bit 0x80002000 j.val = bit watched.cp0.watchLo j.val := by decide
  exact this ⟨i, h2⟩ h1

theorem witness_cache : (cached 3).cp0Usable = true ∧ (cached 3).userMode = false ∧ inKseg0 (effAddr 1 0 (cached 3)) = true ∧
    Sparse.wf lineDefault (cached 3).icache = true ∧ Sparse.wf lineDefault (cached 3).dcache = true ∧
    dHit 0x2000 (cached 3) = some 0 ∧ iHit 0x2000 (cached 3) = none ∧ dHit 0x2000 data = none ∧
    iHit 0x2000 { data with icache := (cached 3).dcache } = some 0 := by decide

theorem witness_synci : inKseg1 (effAddr 1 0 top) = true ∧ uncached (cached 3).cp0.k0 = false ∧
    dHit 0x2000 ({ data with cp0 := (cached 3).cp0 } : State) = none := by decide

theorem witness_exceptions : kernel.dm = false ∧ kernel.exl = false ∧
    ({ kernel with cp0 := { kernel.cp0 with status := 2 } } : State).exl = true ∧ inDebug.dm = true := by decide

theorem witness_traps : ((with12 1 1).reg 2).toInt ≤ ((with12 1 1).reg 1).toInt ∧
    ¬((with12 1 2).reg 2).toInt ≤ ((with12 1 2).reg 1).toInt := by decide

theorem witness_returns : kernel.cp0Usable = true ∧ kernel.inDelaySlot = false ∧ kernel.dm = false ∧ inDebug.dm = true ∧
    inDebug.inDelaySlot = false ∧ State.reset.erl = true ∧ kernel.erl = false := by decide

theorem witness_privilege : user.cp0Usable = false ∧ decode 0x40200000 = none ∧ fOp 0x40200000 = 0x10#6 := by decide

theorem witness_cp0_moves : cp0Reg 12 0 = some .status ∧ Cp0Reg.status.debugOnly = false ∧ cp0Reg 23 0 = some .debug ∧
    Cp0Reg.debugOnly .debug = true ∧ kernel.dm = false ∧ inDebug.dm = true ∧ kernel.cp0Usable = true ∧ inDebug.cp0Usable = true ∧
    cp0Reg 1 0 = some .random ∧ cp0Reg 31 7 = none ∧ cp0Reg 14 0 = some .epc ∧ plainMask .epc = some 0xFFFFFFFF := by decide

/-- `mapped` with a second entry beside the first, PageMask `m` and Index `i`: with EntryHi 0x2005 and a mask of 4 MB pages the
new entry overlaps both. -/
def writing (m i : Word) : State :=
  let t := mapped.setTlb 1 { mapped.tlbAt 0 with vpn2 := 2 }
  { t with cp0 := { t.cp0 with pageMask := m, index := i } }

/-- TLBWI and TLBWR, whatever index is drawn: an overlap elsewhere, none (with EntryHi 0), a reserved mask. -/
theorem witness_tlb_write : (writing 0x007FE000 0).cp0Usable = true ∧
    (0x3FF : Nat) ∈ [0x000, 0x003, 0x00F, 0x03F, 0x0FF, 0x3FF, 0xFFF] ∧
    ((writing 0x007FE000 0).cp0.pageMask.extractLsb' 13 12).toNat = 0x3FF ∧
    (newEntry (writing 0x007FE000 0).cp0).overlaps ((writing 0x007FE000 0).tlbAt 0) = true ∧
    (newEntry (writing 0x007FE000 0).cp0).overlaps ((writing 0x007FE000 0).tlbAt 1) = true ∧
    (∀ j : Fin 32, (newEntry kernel.cp0).overlaps (kernel.tlbAt j.val) = false) ∧
    ((kernel.cp0.pageMask.extractLsb' 13 12).toNat = 0) ∧
    ((writing 0x4000 0).cp0.pageMask.extractLsb' 13 12).toNat ∉ [0x000, 0x003, 0x00F, 0x03F, 0x0FF, 0x3FF, 0xFFF] := by decide

theorem witness_segments : user.userMode = true ∧ bit 0x80000000 31 = true ∧ kernel.userMode = false ∧ State.reset.erl = true ∧
    (0x7FFFFFFF#32).toNat < 0x80000000 ∧ kernel.erl = false ∧ 0xC0000000 ≤ (0xC0000000#32).toNat := by decide

/-- Entry 0 alone matches 0x2000 (readable page) and 0x3000 (invalid page) in address space 5; nothing matches 0x4000. -/
theorem witness_translation : (mapped.tlbAt 0).hits (vpn2Of 0x2000) mapped.asid = true ∧
    (∀ j : Fin 32, j.val ≠ 0 → (mapped.tlbAt j.val).hits (vpn2Of 0x2000) mapped.asid = false) ∧
    (∀ j : Fin 32, (mapped.tlbAt j.val).hits (vpn2Of 0x4000) mapped.asid = false) ∧
    ((mapped.tlbAt 0).page (bit 0x2000 12)).v = true ∧ ((mapped.tlbAt 0).page (bit 0x2000 12)).d = false ∧
    ((mapped.tlbAt 0).page (bit 0x3000 12)).v = false := by decide

theorem witness_access_exception : dataDseg 0x80000000 user = false ∧ (0x80000000#32).toNat % 4 = 0 ∧
    translate 0x80000000 .load user = .exc (.adel 0x80000000) user ∧
    translate 0x80000000 .store user = .exc (.ades 0x80000000) user := ⟨rfl, rfl, rfl, rfl⟩

theorem kernel_undisturbed : Undisturbed kernel := ⟨rfl, rfl, rfl, by decide, rfl, rfl, by decide, by decide⟩

/-- `kernel` with ADD at the pc. -/
def atAdd : State := kernel.withFetchWord 32 0x00221820

theorem atAdd_fetch : fetch atAdd = .ok 0x00221820 atAdd := by
  have h : fetch atAdd = (coreRead 4 0x1000 atAdd).bind fun bs s => .ok (s.value bs) s := rfl
  rw [h, coreRead, drainAll_nil (s := atAdd) rfl]
  rfl

theorem witness_step : Undisturbed atAdd ∧ atAdd.waiting = false ∧ interruptDue atAdd = false ∧
    fetch atAdd = .ok 0x00221820 atAdd ∧ decode 0x00221820 = some (.add 3 1 2) :=
  ⟨⟨rfl, rfl, rfl, by decide, rfl, rfl, by decide, by decide⟩, rfl, by decide, atAdd_fetch, by decide⟩

theorem witness_fetch : atAdd.ejtag.held = none ∧ atAdd.pc.toNat % 4 = 0 ∧ inDseg atAdd.pc atAdd = false ∧
    translate atAdd.pc .fetch atAdd = .ok (0x1000, 2) atAdd ∧ uncached 2 = true ∧ (∀ i, ibMatch i atAdd = false) ∧
    watchMatch atAdd.pc .fetch atAdd = false ∧ BackedBy atAdd 0x1000 0x20001000 .ram ∧ atAdd.wbuf = [] ∧ atAdd.between = [] :=
  ⟨rfl, rfl, rfl, rfl, rfl, by decide, rfl, by unfold BackedBy; decide +kernel, rfl, rfl⟩

/-- `kernel` with a misaligned pc. -/
def misaligned : State := { kernel with pc := 0x80001002 }

theorem witness_misaligned_pc : misaligned.ejtag.held = none ∧ misaligned.pc.toNat % 4 ≠ 0 ∧ Undisturbed misaligned ∧
    misaligned.waiting = false ∧ interruptDue misaligned = false :=
  ⟨rfl, by decide, ⟨rfl, rfl, rfl, by decide, rfl, rfl, by decide, by decide⟩, rfl, by decide⟩

/-- Software interrupt 0 pending and enabled. -/
def interrupted : State := { kernel with cp0 := { kernel.cp0 with status := 0x101, cause := 0x100 } }

theorem witness_waiting : field (kernel.ioGet Adr.LCR) 0 2 ≠ 3 ∧ bit (kernel.ioGet Adr.LCR) 2 = false ∧
    wakeDue ({ kernel with waiting := true } : State) = false ∧ singleStepDue ({ kernel with waiting := true } : State) = false := by
  decide

theorem witness_wake : ∃ s : State, s.waiting = true ∧ s.agenda = [] ∧ s.resetReq = none ∧ bit (s.ioGet Adr.LCR) 2 = false ∧
    s.powerMode = .normal ∧ s.nmiReq = true ∧ singleStepDue s = false ∧ debugInterruptDue s = false :=
  ⟨{ inDebug with waiting := true, nmiReq := true }, by decide⟩

theorem witness_wake_request : ∃ s : State, s.waiting = true ∧ s.agenda = [] ∧ s.resetReq = none ∧
    bit (s.ioGet Adr.LCR) 2 = false ∧ s.powerMode = .normal ∧ enabledRequests s ≠ 0 ∧ singleStepDue s = false ∧
    debugInterruptDue s = false := ⟨{ interrupted with waiting := true }, by decide⟩

theorem witness_interrupt : Undisturbed interrupted ∧ interrupted.ie = true ∧ interrupted.exl = false ∧ interrupted.erl = false ∧
    interrupted.dm = false ∧ bit interrupted.drseg.dcr 4 = true ∧ bit interrupted.cp0.cause 23 = false ∧ interrupted.wbuf = [] ∧
    causeRead interrupted &&& interrupted.cp0.status &&& 0xFF00 ≠ 0 :=
  ⟨⟨rfl, rfl, rfl, by decide, rfl, rfl, by decide, by decide⟩, by decide, by decide, by decide, by decide, by decide, by decide, rfl,
    by decide⟩

/-- `interrupted` with Cause.IV = 1, IntCtl.VS = `vs` and Status.BEV as `b` says; hardware line 2 is below no other request. -/
def vectored (vs : Word) (b : Bool) : State :=
  { interrupted with cp0 := { interrupted.cp0 with cause := 0x00800300, status := if b then 0x00400301 else 0x301, intCtl := vs <<< 5 } }

theorem witness_vectored (vs : Word) (h : vs ∈ [0, 1, 16]) (b : Bool) : Undisturbed (vectored vs b) ∧ (vectored vs b).ie = true ∧
    (vectored vs b).exl = false ∧ (vectored vs b).erl = false ∧ (vectored vs b).dm = false ∧ bit (vectored vs b).cp0.cause 23 = true ∧
    bit (vectored vs b).drseg.dcr 4 = true ∧ (vectored vs b).wbuf = [] ∧ (vectored vs b).bev = b ∧
    field (vectored vs b).cp0.intCtl 5 5 = vs.toNat ∧ vs.toNat ∈ [0, 1, 2, 4, 8, 16] ∧
    causeRead (vectored vs b) &&& (vectored vs b).cp0.status &&& 0xFF00 ≠ 0 ∧
    bit (causeRead (vectored vs b) &&& (vectored vs b).cp0.status) (8 + 1) = true := by
  fin_cases h <;> cases b <;>
    exact ⟨⟨rfl, rfl, rfl, by decide, rfl, rfl, by decide, by decide⟩, by decide, by decide, by decide, by decide, by decide, by decide,
      rfl, by decide, by decide, by decide, by decide, by decide⟩

/-- No request lies above the second software interrupt. -/
theorem witness_vectored_highest : ∀ m : Fin 8, 1 < m.val →
    bit (causeRead (vectored 1 false) &&& (vectored 1 false).cp0.status) (8 + m.val) = false := by decide

theorem witness_nmi : (interrupted.agenda, interrupted.resetReq, interrupted.powerMode, interrupted.wbuf) = ([], none, .normal, []) ∧
    bit (interrupted.ioGet Adr.LCR) 2 = false ∧ ({ interrupted with nmiReq := true } : State).nmiReq = true ∧
    interrupted.dm = false := by decide

/-- 60_exceptions.md R475, R500: the vector of request 1 at a spacing of 32 bytes; the NMI goes first. -/
theorem test_vectored : (after (step (vectored 1 false)) fun t => t.pc) = some 0x80000220 ∧
    (after (step { vectored 1 false with nmiReq := true }) fun t => t.pc) = some 0xBFC00000 := by decide

theorem witness_reset_memory : ResetCause.watchdog ≠ ResetCause.powerOn ∧ inSdram State.reset.params 0x1FC00000 = false := by decide

theorem witness_storage_and_core : StorageOk State.reset ∧ CoreOk State.reset := by unfold StorageOk CoreOk; decide

theorem witness_cp0 : Cp0Ok State.reset := by constructor <;> decide

theorem witness_tlb : ∀ i j : Fin 32, i ≠ j → (State.reset.tlbAt i.val).overlaps (State.reset.tlbAt j.val) = false := by decide

theorem witness_step_from_reset : (after (step State.reset) fun t => t.pc) = some 0xBFC00004 := by decide

theorem witness_user_step : user.userMode = true ∧ user.cu0 = false ∧
    (after (exec (.addu 3 1 2) user) fun t => t.pc) = some 0x1004 := by decide

theorem witness_agent : ({ kernel with agenda := [.ostTick 0] } : State).agenda = .ostTick 0 :: [] ∧ Event.ostTick 0 ≠ .core ∧
    (after (step { kernel with agenda := [.ostTick 0] }) fun t => t.pc) = some 0x80001000 := by decide

/-- OST channel 2 enabled. -/
def ticking : State := kernel.ioSet Adr.OTER 4

theorem witness_timer : Sparse.wf (ioReset ticking.params) ticking.io = true ∧ (2#2 : BitVec 2).toNat < 3 ∧ ostEnabled ticking 2 = true ∧
    ostClockRuns ticking 2 = true ∧ reservedCkc (plainWrite (otcnt 2) 0xFFFFFFFF 9 ticking) = false := by decide

/-- 45_trap_system.md R432: MTC0 writes LSNM, IEXI and SSt of Debug and no other bit. -/
theorem test_mtc0_debug : (cp0Write .debug 0xBF7FFFFF inDebug).debug = 0x50100100 := by
  simp only [cp0Write, debugMask]
  cases Config.mcheckPWritten <;> decide

/-- 10_state.md R72: an NMI ends the wait of a core in debug mode, and stays pending. -/
theorem test_wait_in_debug_mode : (after (step { atAdd with
      cp0 := { atAdd.cp0 with debug := 0x40000000 }, waiting := true, nmiReq := true }) fun t => (t.waiting, t.nmiReq, t.pc)) =
    some (false, true, 0x80001004) := by decide

/-- The I2C after START, with a byte to send and STOP asked for. -/
def i2cWriting : State := i2cStart (writeI2c Adr.I2CSR 3 2 (writeI2c Adr.I2CCR 0x1F 0xD kernel))

/-- 64_peripherals.md R772: a byte that waits to be sent holds TEND at 0 and keeps STOP back. -/
theorem test_i2c_last_byte : (readI2c Adr.I2CSR i2cWriting).1 = 0x1A ∧
    (i2cStop i2cWriting).dev.i2c.busy = true ∧ (i2cStop (i2cSent false (i2cTake i2cWriting))).dev.i2c.busy = false := by decide

/-- R780: an interval comes behind ICC + 1 characters, not from idle. -/
theorem test_ssi_interval :
    let s := ((kernel.ioSet Adr.SSICR0 0x8000).ioSet Adr.SSIITR 1).ioSet Adr.SSIICR 1
    let t := ssiTransfer 0 (ssiPush 2 (ssiPush 1 s))
    (ssiIdle true s).dev.ssi.interval = false ∧ (ssiIdle true t).dev.ssi.interval = false ∧
      (ssiIdle true (ssiTransfer 0 t)).dev.ssi.interval = true := by decide

/-- 65_peripherals_bus_masters.md R912: after a suspension for want of a descriptor a poll demand reads the descriptor again. -/
theorem test_transmit_poll : (ethTxPoll (ethTxSuspend (ethTxStart 0x2000 kernel))).dev.eth.tx.phase = .fetch 0 ∧
    (ethTxPoll (ethTxSuspend (ethTxStart 0x2000 kernel))).dev.eth.tx.desc = 0x2000 := by decide

/-- R893, R894: no status of the LCD before it runs, QD once after a quick disable. -/
theorem test_quick_disable :
    (lcdStatus 0xFF kernel).ioGet Adr.LCDSTATE = 0 ∧
    (lcdStatus 0xFF (writeLcdCtrl 0xFFFFFFFF 0 (writeLcdCtrl 0xFFFFFFFF 8 kernel))).ioGet Adr.LCDSTATE = 0x80 ∧
    (lcdStatus 0xFF (writeLcdCtrl 0xFFFFFFFF 0x18 (writeLcdCtrl 0xFFFFFFFF 8 kernel))).ioGet Adr.LCDSTATE = 1 := by decide

/-- 63_platform_memory.md R698, R949: a unit of 32 bytes keeps the limit of the MSC's 8 words. -/
theorem test_dma_msc_limit : dmaExceeds 0 true 4 ((kernel.ioSet (dmaAdr Adr.DCS0 0) 0x400).ioSet (dmaAdr Adr.DRT0 0) 27) = false ∧
    dmaExceeds 0 true 4 ((kernel.ioSet (dmaAdr Adr.DCS0 0) 0x20400).ioSet (dmaAdr Adr.DRT0 0) 27) = true := by decide

/-- 61_platform.md R571: a write of RTCSAR that makes it equal to RTCSR sets AF, and a cleared AF stays 0 while they are equal. -/
theorem test_rtc_alarm :
    let s := writeRtc Adr.RTCSAR 0xFFFFFFFF 7 ((kernel.ioSet Adr.RTCCR 5).ioSet Adr.RTCSR 7)
    s.ioGet Adr.RTCCR = 0x15 ∧ (writeRtc Adr.RTCCR 0x7D 5 s).ioGet Adr.RTCCR = 5 := by decide

/-- 62_ejtag.md R641: a TAP reset clears AM, and no access of ACC mode is left. -/
theorem test_tap_reset :
    let e := { Ejtag.reset with am := true, ecrA := 3, answer := some [7], held := some 5 }.probe .reset
    e.am = false ∧ e.pending = false ∧ e.answer = none ∧ e.held = none := by decide

/-- 65_peripherals_bus_masters.md R917: a complete frame goes to the wire only with TE = 1. -/
theorem test_transmitter_enable :
    (ethTxHandOver EthDma.reset kernel).dev.eth.sent = none ∧
    (ethTxHandOver EthDma.reset (kernel.ioSet Adr.MAC_CR 8)).dev.eth.sent = some EthDma.reset := by decide

/-- 66_peripherals_audio_card.md R945: a stream read is done only when CMD12 has been sent. -/
theorem test_stream_done :
    let s := mscStart ((kernel.ioSet Adr.MSC_STAT 0x100).ioSet Adr.MSC_CMDAT 0x28)
    let t := mscStart ((s.ioSet Adr.MSC_CMDAT 0).ioSet Adr.MSC_CMD 12)
    (mscDataDone 1 0 s).ioGet Adr.MSC_IREG = 0 ∧ (mscDataDone 1 0 t).ioGet Adr.MSC_IREG = 0 ∧
      (mscDataDone 1 0 (mscCmdDone (.response []) t)).ioGet Adr.MSC_IREG = 5 := by decide

/-- R913: a jabber sets TJT and stops the transmit process, which TPS says. -/
theorem test_jabber :
    let s := ethStatus 8 (ethTxHandOver EthDma.reset (kernel.ioSet Adr.MAC_CR 8))
    s.ioGet Adr.MAC_SR = 0x800A ∧ s.dev.eth.tx.phase = .stopped := by decide

/-- 64_peripherals.md R778: after TFLUSH the next write of SSIDR in Microwire format 2 is a command. -/
theorem test_ssi_flush :
    let s := ssiTransfer 0 (ssiPush 0x10001 ((kernel.ioSet Adr.SSICR0 0x8000).ioSet Adr.SSICR1 0x300000))
    let t := writeSsi Adr.SSICR0 0xFF43 0x8004 s
    s.dev.ssi.sendsData = true ∧ s.dev.ssi.wantData = true ∧ t.dev.ssi.sendsData = false ∧ t.dev.ssi.wantData = false := by decide

/-- 63_platform_memory.md R710, R719: NFCSR.RB is the level of GP81, also one driven before the pin was selected. -/
theorem test_ready_pin :
    let s := nandReady false kernel
    bit (readEmc Adr.NFCSR s).1 7 = true ∧ bit (readEmc Adr.NFCSR (s.ioSet (gpioAdr Adr.GPFSL0 2 + 4) 4)).1 7 = false := by decide

/-- R714: DREQ0 that nothing drives is pulled up. -/
theorem test_dreq_pull : dreqLevel kernel 0 = true := by decide

/-- 61_platform.md R544: with HZM = 0 HIBERNATE drives CS1_ to its HGSR bit, with HZM = 1 it floats it. -/
theorem test_hibernate_select :
    let s := kernel.ioSet (gpioAdr Adr.GPFSL0 2 + 4) 0x40
    hibernateOutputs s 2 = 0x80000 ∧ hibernateOutputs (s.ioSet Adr.HCR 2) 2 = 0 := by decide

/-- 65_peripherals_bus_masters.md R924, R926: a chained descriptor has no buffer 2, also at the end of the ring. -/
theorem test_chained_last : EthDma.size2 { EthDma.reset with des1 := 0x03000800 } = 0 ∧
    EthDma.size2 { EthDma.reset with des1 := 0x02000800 } = 1 := by decide

/-- 66_peripherals_audio_card.md R932: in loop back a sample that is sent is recorded. -/
theorem test_loop_back :
    (aicOut ((writeAicReg Adr.AICDR 0xFFFFFF 7 kernel).ioSet Adr.AICFR 1 |>.ioSet Adr.AICCR 7)).dev.aic = ⟨[], [7]⟩ := by decide

/-- R946: MSC_TXFIFO takes a word before the operation starts. -/
theorem test_msc_txfifo :
    (match writeMsc Adr.MSC_TXFIFO 0xFFFFFFFF 5 kernel with | .ok _ t => t.dev.msc.fifo | _ => []) = [5] := by decide

/-- 64_peripherals.md R797: a write of KTDR sets ITF and overwrites the byte not yet sent, a parameter too. -/
theorem test_kbc_parameter :
    let s := writeKbc Adr.KRDR_KTDR 0x75 (writeKbc Adr.KCSR_KCCR 0x60 (writeKbc Adr.KRDR_KTDR 1 kernel))
    (s.dev.kbc.input, s.dev.kbc.itf, s.dev.kbc.cmdByte) = (0x75, true, 0x75) ∧ (kbcSent s).dev.kbc.itf = false ∧
      kbcTxTimeout s = s := by decide

/-- 65_peripherals_bus_masters.md R884: a queued zero-length packet is not lost behind confirmed data. -/
theorem test_zero_packet :
    let t := UdcTx.confirm ⟨[1], false, true, false⟩
    t.afterIn = ⟨[], false, false, true⟩ ∧ t.afterIn.afterIn = .empty := by decide

/-- R884, R885: a SYNC_FRAME that finds no room is NAKed, and raises no interrupt. -/
theorem test_sync_frame_nak :
    let s := kernel.setUdc { kernel.dev.udc with rx := List.replicate 15 0 }
    udcSetup 0 0 [0, 12, 0, 0, 0, 0, 0, 0] s = s ∧
      (udcSetup 0 0 [0, 12, 0, 0, 0, 0, 0, 0] kernel).ioGet Adr.UDIPR = 0x20 := by decide

/-- R917, R925: HBD, DC and DTRY in the status of a transmitted frame. -/
theorem test_transmit_report :
    ethReport kernel 0x84 = 0x80 ∧ ethReport (kernel.ioSet Adr.MAC_CR 0x10000020) 0x84 = 4 ∧
      ethTdes0 (ethReport (kernel.ioSet Adr.MAC_CR 0x400) 0x18) = 0x8108 := by decide

/-- R917: a late collision ends the frame with LCC = 0; with LCC = 1 the frame stays on the wire. -/
theorem test_late_collision :
    (match ethTxClose 0x200 (ethTxHandOver EthDma.reset (kernel.ioSet Adr.MAC_CR 8)) with
      | .ok _ t => t.dev.eth.sent.isNone | _ => false) = true ∧
    (match ethTxClose 0x200 (ethTxHandOver EthDma.reset (kernel.ioSet Adr.MAC_CR 0x1008)) with
      | .ok _ t => t.dev.eth.sent.isSome | _ => false) = true := by decide

/-- R917: DRO closes the receiver while the station transmits, in full duplex too. -/
theorem test_receive_own : ethDeaf (ethTxHandOver EthDma.reset (kernel.ioSet Adr.MAC_CR 0x900008)) = true ∧
    ethDeaf (ethTxHandOver EthDma.reset (kernel.ioSet Adr.MAC_CR 0x100008)) = false := by decide

/-- A runt with a length field of 2 that PB lets through loses the bytes between its data and its CRC (R917). -/
theorem test_strip_runt : ethStrip (kernel.ioSet Adr.MAC_CR 0x100) (List.replicate 12 0xAA ++ [0, 2, 1, 2, 0, 0, 0, 9, 8, 7, 6]) =
    List.replicate 12 0xAA ++ [0, 2, 1, 2, 9, 8, 7, 6] := by decide

end Sys2Proof.Tests
end

section
/-! SUPPORT. The bytes of a word as a number (20_memory.md R101), a fetch without an event (R122), and the step of a core that
nothing holds back from its instruction (00_scope.md R13). -/

namespace Sys2Proof.Machine

/-! ### The value of bytes -/

/-- In little-endian order bytes are the digits of their number to the base 256. -/
theorem bytesNat_little (bs : List Byte) : bytesNat false bs = Nat.ofDigits 256 (bs.map BitVec.toNat) := by
  induction bs with
  | nil => rfl
  | cons b bs ih => simp [bytesNat, ih, Nat.ofDigits_cons]

/-- Big-endian order is little-endian order of the reversed bytes. -/
theorem bytesNat_big (bs : List Byte) : bytesNat true bs = bytesNat false bs.reverse := by
  induction bs with
  | nil => rfl
  | cons b bs ih =>
    rw [bytesNat_little] at ih ⊢
    simp only [bytesNat, ih, List.reverse_cons, List.map_append, Nat.ofDigits_append]
    simp [Nat.mul_comm, Nat.add_comm]

theorem bytesNat_little_lt (bs : List Byte) : bytesNat false bs < 256 ^ bs.length := by
  rw [bytesNat_little]
  have hdigit : ∀ d ∈ bs.map BitVec.toNat, d < 256 := by simpa using fun b _ => b.isLt
  simpa using Nat.ofDigits_lt_base_pow_length (by decide) hdigit

/-- Up to four bytes fit into a word, so none of them is shifted out. -/
theorem assembleLE_toNat (bs : List Byte) (h : bs.length ≤ 4) : (assembleLE bs).toNat = bytesNat false bs := by
  induction bs with
  | nil => rfl
  | cons b bs ih =>
    have hlen : bs.length ≤ 3 := Nat.le_of_succ_le_succ h
    have hrest : bytesNat false bs < 2 ^ 24 :=
      (bytesNat_little_lt bs).trans_le (Nat.pow_le_pow_right (by decide) hlen)
    have hb : b.toNat < 2 ^ 8 := b.isLt
    have hshift : (assembleLE bs <<< 8).toNat = bytesNat false bs <<< 8 := by
      rw [BitVec.toNat_shiftLeft, ih (by omega), Nat.shiftLeft_eq]
      exact Nat.mod_eq_of_lt (by omega)
    rw [assembleLE, BitVec.toNat_or, hshift, BitVec.toNat_setWidth_of_le (by decide),
      ← Nat.shiftLeft_add_eq_or_of_lt hb, Nat.shiftLeft_eq, bytesNat]
    simp only [Bool.false_eq_true, if_false]
    omega

theorem State.value_toNat (s : State) (bs : List Byte) (h : bs.length ≤ 4) :
    (s.value bs).toNat = bytesNat s.params.bigEndian bs := by
  unfold State.value assemble
  cases s.params.bigEndian with
  | false => exact assembleLE_toNat bs h
  | true => rw [bytesNat_big]; exact assembleLE_toNat bs.reverse (by simpa using h)

theorem State.memBytes_length (s : State) (k n : Nat) : (s.memBytes k n).length = n := by
  induction n generalizing k with
  | zero => rfl
  | succ n ih => simp [State.memBytes, ih]

theorem State.value_memBytes_toNat (s : State) (key n : Nat) (h : n ≤ 4) :
    (s.value (s.memBytes key n)).toNat = cellsNat s key n :=
  s.value_toNat _ (by rwa [State.memBytes_length])

section

variable {s s1 : State}

/-! ### Fetch (R122) -/

theorem ibCheck_noMatch (h : ∀ i, ibMatch i s = false) : ibCheck s = .ok () s := by simp [ibCheck, h]

theorem watchCheck_noMatch {va : Word} {k : Kind} (h : watchMatch va k s = false) : watchCheck va k s = .ok () s := by
  simp [watchCheck, h]

/-- A data read of memory cells, with nothing to drain and no agent that moves, answers their bytes. -/
theorem coreRead_cell {n pa key : Nat} {kind : RegionKind} (hb : BackedBy s pa key kind) (hw : s.wbuf = [])
    (ha : s.between = []) : coreRead n pa s = .ok (s.memBytes key n) s := by
  rw [coreRead, drainAll_nil hw, Res.bind, transferRead_alone ha, busRead, readRoute_cell hb]

theorem fetch_misaligned (hh : s.ejtag.held = none) (hp : s.pc.toNat % 4 ≠ 0) : fetch s = .exc (.adel s.pc) s := by
  simp [fetch, hh, aligned, hp]

theorem fetch_fromMemory (hh : s.ejtag.held = none) (hp : s.pc.toNat % 4 = 0) (hd : inDseg s.pc s = false) :
    fetch s = fetchMemory s := by
  simp [fetch, hh, aligned, hp, hd]

theorem fetchMemory_uncached {pa : Word} {c : BitVec 3} {key : Nat} {kind : RegionKind}
    (ht : translate s.pc .fetch s = .ok (pa, c) s) (hc : uncached c = true) (hi : ∀ i, ibMatch i s = false)
    (hm : watchMatch s.pc .fetch s = false) (hb : BackedBy s pa.toNat key kind) (hw : s.wbuf = [])
    (ha : s.between = []) : fetchMemory s = .ok (s.value (s.memBytes key 4)) s := by
  simp [fetchMemory, ht, ibCheck_noMatch hi, watchCheck_noMatch hm, hc, coreRead_cell hb hw ha, Res.bind]

/-! ### A step that reaches its instruction (R13) -/

theorem onNext_onNext (f g : State → State) (o : Out) : onNext f (onNext g o) = onNext (fun t => f (g t)) o := by
  cases o <;> rfl

theorem stepRunning_undisturbed (hu : Undisturbed s) : stepRunning s = runOrInterrupt s := by
  simp [stepRunning, hu.noNmi, hu.noSingleStep, hu.noDebugInterrupt]

theorem runOrInterrupt_ready (hw : s.waiting = false) (hd : deferredWatchDue s = false) (hi : interruptDue s = false) :
    runOrInterrupt s = runInstruction s := by
  have hs : { s with waiting := false } = s := by rw [← hw]
  simp [runOrInterrupt, hs, hw, hd, hi]

/-- R13: an undisturbed core that does not wait, with no interrupt due, runs one instruction. -/
theorem step_runsInstruction (hu : Undisturbed s) (hw : s.waiting = false) (hi : interruptDue s = false) :
    step s = settled true (onNext (completed s) (runInstruction s)) := by
  rw [step_alone hu.turn, stepCore_running hu.noReset hu.clock hu.noDoze, stepRunning_undisturbed hu,
    runOrInterrupt_ready hw hu.noDeferredWatch hi]

theorem runInstruction_decoded {w : Word} {i : Instr} (hf : fetch s = .ok w s1) (hdec : decode w = some i) :
    runInstruction s = onNext (fun t => t.hold w) (exec i s1) := by
  simp [runInstruction, hf, Res.out, runWord, hdec]

theorem runInstruction_exception {e : Exc} (hf : fetch s = .exc e s1) :
    runInstruction s = .next (takeException e s1) := by
  simp [runInstruction, hf, Res.out, raise]

end

/-- Settles O44: the step of an undisturbed core is `runInstruction`, and the fetch decides what that does. -/
theorem stepRunsDecoded : Obligations.StepRunsDecoded := by
  refine ⟨fun s s1 w i hu hw hi hf hdec => ?decoded, fun s hh hp => ⟨fetch_misaligned hh hp, fun hu hw hi => ?misaligned⟩,
    fun s pa c key kind hh hp hd ht hc hib hm hb hw ha => ?uncached⟩
  case decoded => rw [step_runsInstruction hu hw hi, runInstruction_decoded hf hdec, onNext_onNext]
  case misaligned => rw [step_runsInstruction hu hw hi, runInstruction_exception (fetch_misaligned hh hp), onNext]
  case uncached =>
    exact ⟨s.value (s.memBytes key 4),
      (fetch_fromMemory hh hp hd).trans (fetchMemory_uncached ht hc hib hm hb hw ha),
      s.value_memBytes_toNat key 4 le_rfl⟩

end Sys2Proof.Machine
end

section
/-! SUPPORT. What a step of the machine can do, said once: it is a chain of moves, each an access, a register write, a change of
the control state, or one of the model's operations on coprocessor 0, the TLB or the whole machine. An invariant of the machine is
then a property that each move keeps. -/

namespace Sys2Proof.Machine

/-- `t` differs from `s` in control state alone: the pc and the delay slot, HI and LO, LLbit, the wait and the power mode, the
requests of the probe, the agenda and the counter of free values. -/
def ControlStep (s t : State) : Prop :=
  { t with pc := s.pc, pending := s.pending, inDelaySlot := s.inDelaySlot, hi := s.hi, lo := s.lo, llBit := s.llBit,
           stepped := s.stepped, waiting := s.waiting, powerMode := s.powerMode, dintReq := s.dintReq, ejtag := s.ejtag,
           agenda := s.agenda, free := s.free } = s

section

variable {s t : State}

theorem ControlStep.gpr (h : ControlStep s t) : t.gpr = s.gpr := (congrArg State.gpr h :)
theorem ControlStep.wbuf (h : ControlStep s t) : t.wbuf = s.wbuf := (congrArg State.wbuf h :)
theorem ControlStep.cp0 (h : ControlStep s t) : t.cp0 = s.cp0 := (congrArg State.cp0 h :)
theorem ControlStep.params (h : ControlStep s t) : t.params = s.params := (congrArg State.params h :)

end

/-- One thing that a step can do. -/
inductive Move : State → State → Prop
  /-- a fetch, a load, a store, a bus transfer, an event -/
  | access {s t : State} (h : AccessStep s t) : Move s t
  | control {s t : State} (h : ControlStep s t) : Move s t
  | writeReg (s : State) (rd : Reg) (v : Word) : Move s (s.setReg rd v)
  | exception (e : Exc) (s : State) : Move s (takeException e s)
  | debugEntry (c : DebugCause) (s : State) : Move s (debugEntry c s)
  | debugReenter (code : Word) (s : State) : Move s (debugReenter code s)
  | nmi (s : State) : Move s (nmiEntry s)
  | eret (s : State) : Move s (returnFromException s)
  | deret (s : State) : Move s (returnFromDebug s)
  /-- LL records the physical address -/
  | link (s : State) (pa : Word) : Move s { s with cp0 := { s.cp0 with llAddr := pa >>> 4 }, llBit := true }
  | mtc0 (r : Option Cp0Reg) (v : Word) (s : State) : Move s (writeCp0 r v s)
  /-- DI and EI -/
  | setIe (s : State) (ie : Bool) : Move s (s.withCp0 { s.cp0 with status := setBit s.cp0.status 0 ie })
  | random (s : State) : Move s (drawRandom s)
  | tlbp (s : State) : Move s (s.withCp0 { s.cp0 with index := probedIndex s })
  | tlbr (s : State) (e : TlbEntry) : Move s (s.withCp0 (s.cp0.fromEntry e))
  | conflict (s : State) : Move s (reportConflict s)
  /-- a TLB write that the overlap test of R447 lets through -/
  | tlbWrite (s : State) (i : Nat) (h : tlbConflict s i (newEntry s.cp0) = false) : Move s (s.setTlb i (newEntry s.cp0))
  | reset (c : ResetCause) (s : State) : Move s (runtimeReset c s)

/-- `t` is reached from `s` by moves. -/
abbrev Moves : State → State → Prop := Relation.ReflTransGen Move

/-- The next state of an outcome, if there is one, is reached from `s` by moves. -/
def Reaches (s : State) : Out → Prop
  | .next t => Moves s t
  | .fault _ => True
  | .refused _ => True

theorem Reaches.moves {s t : State} {o : Out} (h : Reaches s o) (ho : o = .next t) : Moves s t := by subst ho; exact h

/-- A property that every move keeps holds of every state reached. -/
theorem Moves.keeps {P : State → Prop} (hP : ∀ s t, Move s t → P s → P t) {s t : State} (h : Moves s t) (hs : P s) :
    P t := by
  induction h with
  | refl => exact hs
  | tail _ hm ih => exact hP _ _ hm ih

section

variable {α : Type} {s t : State}

/-! ### The shapes that instructions share -/

theorem Moves.access {u : State} (h : Moves s t) (k : AccessStep t u) : Moves s u := h.tail (.access k)

theorem Moves.dev {u : State} (h : Moves s t) (k : DevStep t u) : Moves s u := h.access k.bus.access

theorem done_reaches (h : Moves s t) : Reaches s (done t) := h.tail (.control rfl)

theorem writeResult_reaches {rd : Reg} {v : Word} (h : Moves s t) : Reaches s (writeResult rd v t) :=
  done_reaches (h.tail (.writeReg t rd v))

theorem writeHiLo_reaches {p : BitVec 64} (h : Moves s t) : Reaches s (writeHiLo p t) := done_reaches (h.tail (.control rfl))

theorem raise_reaches {e : Exc} (h : Moves s t) : Reaches s (raise e t) := h.tail (.exception e t)

theorem writeChecked_reaches {rd : Reg} {r : BitVec 33} (h : Moves s t) : Reaches s (writeChecked rd r t) := by
  unfold writeChecked
  split
  · exact raise_reaches h
  · exact writeResult_reaches h

theorem trapIf_reaches {c : Bool} (h : Moves s t) : Reaches s (trapIf c t) := by
  unfold trapIf
  split
  · exact raise_reaches h
  · exact done_reaches h

theorem outsideSlot_reaches {k : Out} (h : Reaches s k) : Reaches s (outsideSlot t k) := by
  unfold outsideSlot
  split
  · exact True.intro
  · exact h

theorem linking_reaches {rs : Reg} {k : Out} (h : Reaches s k) : Reaches s (linking rs k) := by
  unfold linking
  split
  · exact True.intro
  · exact h

theorem privileged_reaches {k : Out} (h : Moves s t) (hk : Reaches s k) : Reaches s (privileged t k) := by
  unfold privileged
  split
  · exact hk
  · exact raise_reaches h

theorem branch_reaches {taken : Bool} {off : Imm16} (h : Moves s t) : Reaches s (branch taken off t) :=
  outsideSlot_reaches (h.tail (.control (by cases taken <;> rfl)))

theorem branchLikely_reaches {taken : Bool} {off : Imm16} (h : Moves s t) : Reaches s (branchLikely taken off t) :=
  outsideSlot_reaches (h.tail (.control (by cases taken <;> rfl)))

theorem jump_reaches {a : Word} (h : Moves s t) : Reaches s (jump a t) := outsideSlot_reaches (h.tail (.control rfl))

theorem link_moves : Moves s s.link := .single (.writeReg s _ _)

/-- An instruction built on an access: the access, then the rest of the instruction or the exception. -/
theorem out_reaches {r : Res α} {k : α → State → Out} (hr : r.All (AccessStep s))
    (hk : ∀ a t, Moves s t → Reaches s (k a t)) :
    Reaches s (r.out k) := by
  cases r with
  | ok a t => exact hk a t (.single (.access hr))
  | exc e t => exact raise_reaches (.single (.access hr))
  | dbg c t => exact (Moves.access .refl hr).tail (.debugEntry c t)
  | stall t => exact .single (.access hr)
  | fault _ => exact True.intro
  | refused _ => exact True.intro

/-- An operation whose value is not needed. -/
theorem toOut_reaches {r : Res Unit} (hr : r.All (AccessStep s)) : Reaches s r.toOut := out_reaches hr fun _ _ h => h

theorem load_reaches {rt base : Reg} {off : Imm16} {n : Nat} {ext : Word → Word} : Reaches s (load rt base off n ext s) :=
  out_reaches (memRead_access (.refl s)) fun _ _ h => writeResult_reaches h

theorem store_reaches {rt base : Reg} {off : Imm16} {n : Nat} : Reaches s (store rt base off n s) :=
  out_reaches (memWrite_access (.refl s)) fun _ _ h => done_reaches h

/-! ### The instructions with a shape of their own -/

theorem execMovz_reaches {rd rs rt : Reg} : Reaches s (execMovz rd rs rt s) := by
  unfold execMovz
  split
  · exact writeResult_reaches .refl
  · exact done_reaches .refl

theorem execMovn_reaches {rd rs rt : Reg} : Reaches s (execMovn rd rs rt s) := by
  unfold execMovn
  split
  · exact writeResult_reaches .refl
  · exact done_reaches .refl

theorem drawn_moves {n : Nat} : Moves s (s.drawn n) := .single (.control rfl)

theorem execExt_reaches {rt rs : Reg} {msbd lsb : BitVec 5} : Reaches s (execExt rt rs msbd lsb s) := by
  unfold execExt
  split
  · exact writeResult_reaches drawn_moves
  · exact writeResult_reaches .refl

theorem execIns_reaches {rt rs : Reg} {msb lsb : BitVec 5} : Reaches s (execIns rt rs msb lsb s) := by
  unfold execIns
  split
  · exact writeResult_reaches drawn_moves
  · exact writeResult_reaches .refl

theorem freeHiLo_moves : Moves s s.freeHiLo := .single (.control rfl)

theorem execDiv_reaches {rs rt : Reg} : Reaches s (execDiv rs rt s) := by
  unfold execDiv
  dsimp only
  split
  · exact done_reaches freeHiLo_moves
  · exact done_reaches (.single (.control rfl))

theorem execDivu_reaches {rs rt : Reg} : Reaches s (execDivu rs rt s) := by
  unfold execDivu
  dsimp only
  split
  · exact done_reaches freeHiLo_moves
  · exact done_reaches (.single (.control rfl))

theorem execJalr_reaches {rd rs : Reg} {hint : BitVec 5} : Reaches s (execJalr rd rs hint s) := by
  refine outsideSlot_reaches ?_
  split
  · exact True.intro
  · exact jump_reaches (.single (.writeReg s _ _))

theorem execLl_reaches {rt base : Reg} {off : Imm16} : Reaches s (execLl rt base off s) :=
  out_reaches (memReadPa_access (.refl s)) fun _ t h => writeResult_reaches (h.tail (.link t _))

theorem checkStore_access {va : Word} : (checkStore va s).All (AccessStep s) := by
  unfold checkStore
  split
  · exact .refl s
  · split
    · exact .refl s
    · exact (translate_access (.refl s)).bind fun _ _ h => h

theorem execSc_reaches {rt base : Reg} {off : Imm16} : Reaches s (execSc rt base off s) := by
  refine out_reaches ?_ fun _ _ h => writeResult_reaches h
  split
  · exact memWrite_access (.refl s)
  · exact checkStore_access

theorem execCache_reaches {op : BitVec 5} {base : Reg} {off : Imm16} : Reaches s (execCache op base off s) := by
  refine privileged_reaches .refl ?_
  split
  · exact done_reaches .refl
  · exact out_reaches ((translate_access (.refl s)).bind fun _ _ h => cacheEffect_access h) fun _ _ h => done_reaches h

theorem execSync_reaches {stype : BitVec 5} : Reaches s (execSync stype s) :=
  out_reaches ((AccessStep.refl s).all (drainAll_bus (.refl s))) fun _ _ h => done_reaches h

theorem synciBody_access {c : BitVec 3} {pa : Nat} (h : AccessStep s t) :
    (if uncached c then .ok () t else synciEffect pa t).All (AccessStep s) := by
  split
  · exact h
  · exact synciEffect_access h

theorem execSynci_reaches {base : Reg} {off : Imm16} : Reaches s (execSynci base off s) := by
  unfold execSynci
  dsimp only
  split
  · exact done_reaches .refl
  · exact out_reaches ((translate_access (.refl s)).bind fun _ _ h => synciBody_access h) fun _ _ h => done_reaches h

theorem cp0Read_moves (r : Option Cp0Reg) (s : State) : Moves s (cp0Read r s).2 := by
  unfold cp0Read
  split
  · exact drawn_moves
  · exact .single (.random s)
  · split
    · exact drawn_moves
    · exact .refl

theorem setIe_reaches {rt : Reg} {ie : Bool} : Reaches s (setIe rt ie s) :=
  privileged_reaches .refl (writeResult_reaches (.single (.setIe s ie)))

theorem tlbWrite_reaches {i : Nat} (h : Moves s t) : Reaches s (tlbWrite i t) := by
  unfold tlbWrite
  dsimp only
  split
  · exact True.intro
  · split
    next => exact raise_reaches (h.tail (.conflict t))
    next hc => exact done_reaches (h.tail (.tlbWrite t i (Bool.eq_false_of_not_eq_true hc)))

theorem execDeret_reaches : Reaches s (execDeret s) := by
  refine privileged_reaches .refl ?_
  split
  · exact outsideSlot_reaches (.single (.deret s))
  · exact raise_reaches .refl

theorem powerMode_move (t : State) (m : PowerMode) : Move t { t with powerMode := m } := .control rfl

theorem enterPowerMode_moves {lpm : Nat} (h : Moves s t) : Moves s (enterPowerMode lpm t) := by
  unfold enterPowerMode
  split
  · exact h.tail (powerMode_move t .idle)
  · exact h.tail (powerMode_move t .sleep)
  · exact (h.dev (hibernatePins_dev (.refl t))).tail (powerMode_move _ .hibernate)

theorem retire_waiting_move (t : State) : Move t { t.retire with waiting := true } := .control rfl

theorem startWait_moves {lpm : Nat} : Moves s (startWait lpm s) := by
  have noDoze : Moves s (s.ioMod Adr.LCR 0 (one 2)) := Moves.dev .refl (DevStep.refl s).ioMod
  exact (enterPowerMode_moves noDoze).tail (retire_waiting_move _)

theorem execWait_reaches {code : BitVec 19} : Reaches s (execWait code s) := by
  refine privileged_reaches .refl (outsideSlot_reaches ?_)
  split
  · exact True.intro
  · exact startWait_moves

theorem execSdbbp_reaches {code : BitVec 20} : Reaches s (execSdbbp code s) := by
  unfold execSdbbp
  split
  · exact .single (.debugReenter 9 s)
  · exact .single (.debugEntry .dbp s)

/-! ### Every instruction -/

theorem exec_reaches (i : Instr) (s : State) : Reaches s (exec i s) := by
  cases i with
  | add | addi | sub => exact writeChecked_reaches .refl
  | addu | addiu | subu | slti | sltiu | slt | sltu => exact writeResult_reaches .refl
  | and | andi | or | ori | xor | xori | nor | lui | clz | clo | seb | seh | wsbh => exact writeResult_reaches .refl
  | sll | sllv | srl | srlv | sra | srav | rotr | rotrv | mfhi | mflo => exact writeResult_reaches .refl
  | movz => exact execMovz_reaches
  | movn => exact execMovn_reaches
  | ext => exact execExt_reaches
  | ins => exact execIns_reaches
  | mult | multu | madd | maddu | msub | msubu => exact writeHiLo_reaches .refl
  | div => exact execDiv_reaches
  | divu => exact execDivu_reaches
  | mthi | mtlo => exact done_reaches (.single (.control rfl))
  | mul => exact writeResult_reaches freeHiLo_moves
  | j | jr => exact jump_reaches .refl
  | jal => exact jump_reaches link_moves
  | jalr rd rs hint => exact execJalr_reaches (hint := hint)
  | beq | bne | blez | bgtz | bltz | bgez => exact branch_reaches .refl
  | beql | bnel | blezl | bgtzl | bltzl | bgezl => exact branchLikely_reaches .refl
  | bltzal | bgezal => exact outsideSlot_reaches (linking_reaches (branch_reaches link_moves))
  | bltzall | bgezall => exact outsideSlot_reaches (linking_reaches (branchLikely_reaches link_moves))
  | lb | lbu | lh | lhu | lw => exact load_reaches
  | sb | sh | sw => exact store_reaches
  | lwl | lwr => exact out_reaches (readLanes_access (.refl s)) fun _ _ h => writeResult_reaches h
  | swl | swr => exact out_reaches (writeLanes_access (.refl s)) fun _ _ h => done_reaches h
  | ll => exact execLl_reaches
  | sc => exact execSc_reaches
  | pref => exact done_reaches .refl
  | cache => exact execCache_reaches
  | sync stype => exact execSync_reaches (stype := stype)
  | synci => exact execSynci_reaches
  | tge | tgeu | tlt | tltu | teq | tne | tgei | tgeiu | tlti | tltiu | teqi | tnei => exact trapIf_reaches .refl
  | syscall | brk | rdhwr => exact raise_reaches .refl
  | cop1 | cop2 | cop1x | lwc1 | lwc2 | ldc1 | ldc2 | swc1 | swc2 | sdc1 | sdc2 | movci => exact raise_reaches .refl
  | sdbbp code => exact execSdbbp_reaches (code := code)
  | mfc0 => exact privileged_reaches .refl (writeResult_reaches (cp0Read_moves _ s))
  | mtc0 => exact privileged_reaches .refl (done_reaches (.single (.mtc0 _ _ s)))
  | rdpgpr | wrpgpr => exact privileged_reaches .refl (writeResult_reaches .refl)
  | di | ei => exact setIe_reaches
  | tlbr => exact privileged_reaches .refl (done_reaches (.single (.tlbr s _)))
  | tlbwi => exact privileged_reaches .refl (tlbWrite_reaches .refl)
  | tlbwr => exact privileged_reaches .refl (tlbWrite_reaches (.single (.random s)))
  | tlbp => exact privileged_reaches .refl (done_reaches (.single (.tlbp s)))
  | eret => exact privileged_reaches .refl (outsideSlot_reaches (.single (.eret s)))
  | deret => exact execDeret_reaches
  | wait code => exact execWait_reaches (code := code)

/-! ### The step (R13, R466) -/

/-- What follows a state reached from `s` is reached from `s`. -/
theorem Reaches.after {o : Out} (h : Moves s t) (k : Reaches t o) : Reaches s o := by
  cases o with
  | next u => exact h.trans k
  | fault _ => exact True.intro
  | refused _ => exact True.intro

theorem Reaches.onNext {f : State → State} {o : Out} (h : Reaches s o) (hf : ∀ t, Move t (f t)) : Reaches s (onNext f o) := by
  cases o with
  | next t => exact h.tail (hf t)
  | fault _ => exact True.intro
  | refused _ => exact True.intro

theorem runWord_reaches (w : Word) (h : Moves s t) : Reaches s (runWord w t) := by
  unfold runWord
  split
  · exact (exec_reaches _ t).after h
  · unfold reservedWord
    split
    · exact privileged_reaches h (raise_reaches h)
    · exact raise_reaches h

theorem runInstruction_reaches : Reaches s (runInstruction s) :=
  out_reaches (fetch_access (.refl s)) fun w _ h => (runWord_reaches w h).onNext fun _ => .control rfl

theorem takeInterrupt_reaches (h : Moves s t) : Reaches s (takeInterrupt t) := by
  unfold takeInterrupt
  split
  · exact True.intro
  · exact raise_reaches h

theorem runOrInterrupt_reaches : Reaches s (runOrInterrupt s) := by
  have awake : Moves s { s with waiting := false } := .single (.control rfl)
  unfold runOrInterrupt
  dsimp only
  split
  · exact .refl
  · split
    · exact raise_reaches awake
    · split
      · exact takeInterrupt_reaches awake
      · exact runInstruction_reaches.after awake

theorem takeDebugInterrupt_moves : Moves s (takeDebugInterrupt s) := by
  have acknowledged : Moves s { s with dintReq := false, ejtag := { s.ejtag with ecr := s.ejtag.ecr &&& ~~~(one 12) } } :=
    .single (.control rfl)
  exact acknowledged.tail (.debugEntry .dint _)

theorem stepRunning_reaches : Reaches s (stepRunning s) := by
  unfold stepRunning
  split
  · exact .single (.nmi s)
  · split
    · exact .single (.debugEntry .dss s)
    · split
      · exact takeDebugInterrupt_moves
      · exact runOrInterrupt_reaches

theorem wakeClocks_moves : Moves s (wakeClocks s) := by
  unfold wakeClocks
  split
  · exact .single (.control rfl)
  · exact .refl

theorem wakeDoze_moves : Moves s (wakeDoze s) := by
  unfold wakeDoze
  split
  · exact Moves.dev .refl (DevStep.refl s).ioMod
  · exact .refl

theorem completed_move (before after : State) : Move after (completed before after) := by
  unfold completed
  split <;> exact .control rfl

theorem stepCore_reaches : Reaches s (stepCore s) := by
  have woken : Moves s (wakeDoze (wakeClocks s)) := wakeClocks_moves.trans wakeDoze_moves
  unfold stepCore
  split
  next c _ => exact .single (.reset c s)
  next =>
    dsimp only
    split
    · exact woken
    · exact (stepRunning_reaches.onNext fun _ => completed_move _ _).after woken

theorem settled_reaches {alone : Bool} {o : Out} (h : Reaches s o) : Reaches s (settled alone o) := by
  cases o with
  | fault _ => exact True.intro
  | refused _ => exact True.intro
  | next t =>
    unfold settled
    dsimp only
    split
    · refine (toOut_reaches ?_).after h
      split
      · exact (AccessStep.refl t).all (drainAll_bus (.refl t))
      · exact (AccessStep.refl t).all (drainDevices_bus (.refl t))
    · exact h

theorem step_reaches (s : State) : Reaches s (step s) := by
  have turn : ∀ rest, Moves s { s with agenda := rest } := fun _ => .single (.control rfl)
  unfold step
  split
  next => exact settled_reaches stepCore_reaches
  next rest _ => exact settled_reaches (stepCore_reaches.after (turn rest))
  next e rest _ _ =>
    exact (toOut_reaches ((AccessStep.refl _).all (applyEvent_bus e))).after (turn rest)

end

end Sys2Proof.Machine
end

section
/-! SUPPORT. What a reset leaves (70_reset_and_hazards.md R820 to R823), and the invariant of register 0 and the write buffer
(10_state.md R21, R68). -/

namespace Sys2Proof.Machine

section

variable {s t : State}

/-! ### The state after a reset -/

theorem keepRegs_dev (old : State) (l : List Nat) (h : DevStep s t) : DevStep s (keepRegs old l t) := by
  induction l generalizing t with
  | nil => exact h
  | cons a as ih => exact ih h.ioSet

theorem keepRtcgr_dev (old : State) (h : DevStep s t) : DevStep s (keepRtcgr old t) := h.ioSet

theorem holdPins_dev (c : ResetCause) (h : DevStep s t) : DevStep s (holdPins c t) := h.ioMod.ite h

/-- Outside the device part a reset leaves the power-on reset state with the memory and the probe registers it keeps. -/
theorem runtimeReset_view (c : ResetCause) (s : State) : (runtimeReset c s).view =
    { (State.resetWith s.params).view with
      mem := memAfterReset c s, ejtag := s.ejtag.afterReset, agenda := s.agenda, between := s.between } := by
  have kept : DevStep _ (runtimeReset c s) := holdPins_dev c (keepRtcgr_dev s (keepRegs_dev s (keptRegs c) (.refl _)).ioSet)
  exact kept.view

theorem runtimeReset_params (c : ResetCause) (s : State) : (runtimeReset c s).params = s.params :=
  congrArg CoreView.params (runtimeReset_view c s)

theorem runtimeReset_gpr (c : ResetCause) (s : State) : (runtimeReset c s).gpr = Vector.replicate 32 0 :=
  congrArg CoreView.gpr (runtimeReset_view c s)

theorem runtimeReset_wbuf (c : ResetCause) (s : State) : (runtimeReset c s).wbuf = [] :=
  congrArg CoreView.wbuf (runtimeReset_view c s)

theorem runtimeReset_cp0 (c : ResetCause) (s : State) : (runtimeReset c s).cp0 = Cp0.reset s.params :=
  congrArg CoreView.cp0 (runtimeReset_view c s)

/-! ### Register 0 and the write buffer (R21, R68) -/

theorem CoreOk.of_eq (h : CoreOk s) (hg : t.gpr = s.gpr) (hw : t.wbuf = s.wbuf) : CoreOk t := by
  unfold CoreOk at *
  rwa [hg, hw]

theorem AccessStep.gpr (h : AccessStep s t) : t.gpr = s.gpr := congrArg CoreView.gpr h.core

/-- R21: a register write leaves slot 0 alone. -/
theorem setReg_slot0 (s : State) (rd : Reg) (v : Word) : (s.setReg rd v).gpr[0] = s.gpr[0] := by
  unfold State.setReg
  split
  next => rfl
  next hz =>
    have hne : rd.toNat ≠ 0 := fun e => hz (BitVec.eq_of_toNat_eq e)
    exact Vector.getElem_set_ne rd.isLt _ hne

theorem returnFromException_core (h : CoreOk s) : CoreOk (returnFromException s) := by
  unfold returnFromException
  split <;> exact h

theorem writeCp0_core {r : Option Cp0Reg} {v : Word} (h : CoreOk s) : CoreOk (writeCp0 r v s) := by
  cases r <;> exact h

theorem reportConflict_core (h : CoreOk s) : CoreOk (reportConflict s) := by
  unfold reportConflict
  split <;> exact h

theorem Move.keeps_coreOk (m : Move s t) (h : CoreOk s) : CoreOk t := by
  cases m with
  | access k => exact ⟨(congrArg (·[0]) k.gpr).trans h.1, k.wbuf h.2⟩
  | control k => exact h.of_eq k.gpr k.wbuf
  | writeReg _ rd v => exact ⟨(setReg_slot0 s rd v).trans h.1, (s.setReg_wbuf rd v).symm ▸ h.2⟩
  | exception e => exact h.of_eq (takeException_gpr e s) (takeException_wbuf e s)
  | eret => exact returnFromException_core h
  | mtc0 r v => exact writeCp0_core h
  | conflict => exact reportConflict_core h
  | reset c => exact ⟨by rw [runtimeReset_gpr]; rfl, by rw [runtimeReset_wbuf]; exact Nat.zero_le 16⟩
  | debugEntry | debugReenter | nmi | deret | link | setIe | random | tlbp | tlbr | tlbWrite => exact h

end

/-- Settles O52: every move of a step keeps register 0 and the bound of the write buffer. -/
theorem coreKept : Obligations.CoreKept := fun s _ h hstep =>
  ((step_reaches s).moves hstep).keeps (fun _ _ => Move.keeps_coreOk) h

end Sys2Proof.Machine
end

section
/-! SUPPORT. The reserved bits of coprocessor 0 (10_state.md R28 to R63): every operation on it keeps them 0, and keeps Wired and
Random TLB indexes. -/

namespace Sys2Proof.Machine

/-! ### Bits outside a mask -/

section

variable {m v : Word}

/-- Bit by bit: where the mask is 0 the word is 0. -/
theorem Within.of_bits (h : ∀ i < 32, m.getLsbD i = false → v.getLsbD i = false) : Within m v := by
  unfold Within
  apply BitVec.eq_of_getLsbD_eq
  intro i hi
  rw [BitVec.getLsbD_and, BitVec.getLsbD_not]
  cases hm : m.getLsbD i with
  | true => simp
  | false => simp [h i hi hm]

theorem Within.flag {b : Bool} {i : Nat} (h : Within m (one i)) : Within m (flag b i) := Within.ite h .zero

theorem Within.masked {mask old : Word} (h : Within m old) (hm : Within m mask) : Within m (masked mask old v) :=
  h.and_left.or hm.and_right

theorem Within.maskedClear {mask clear old : Word} (h : Within m old) (hm : Within m mask) :
    Within m (maskedClear mask clear old v) := (h.masked hm).and_left

theorem Within.shiftRight4 : Within 0x0FFFFFFF (v >>> 4) :=
  .of_bits fun i hi hm => by
    have top : ∀ j : Fin 32, (0x0FFFFFFF#32).getLsbD j = false → 28 ≤ j.val := by decide
    have h28 : 28 ≤ i := top ⟨i, hi⟩ hm
    rw [BitVec.getLsbD_ushiftRight]
    exact BitVec.getLsbD_of_ge _ _ (by omega)

end

/-! ### TLB indexes -/

section

variable {s t : State}

theorem lastIndex_eq (p : Params) : p.lastIndex = 2 ^ Params.indexBits p - 1 := by
  unfold Params.lastIndex Params.indexBits
  cases p.tlb32 <;> rfl

theorem lastIndex_lt (p : Params) : p.lastIndex < 32 := by
  unfold Params.lastIndex
  split <;> decide

theorem toNat_ofNat_index {i : Nat} (h : i < 32) : (BitVec.ofNat 32 i).toNat = i := by
  rw [BitVec.toNat_ofNat]
  exact Nat.mod_eq_of_lt (by omega)

theorem indexMask_toNat (s : State) : (indexMask s).toNat = s.params.lastIndex := by
  unfold indexMask Params.indexBits Params.lastIndex
  cases s.params.tlb32 <;> rfl

/-- A masked write of a TLB index is a TLB index. -/
theorem masked_indexMask_le {old v : Word} (h : old.toNat ≤ s.params.lastIndex) :
    (masked (indexMask s) old v).toNat ≤ s.params.lastIndex := by
  have hlast := lastIndex_eq s.params
  have hpos := Nat.two_pow_pos (Params.indexBits s.params)
  have kept : (old &&& ~~~indexMask s).toNat < 2 ^ Params.indexBits s.params := by
    rw [BitVec.toNat_and]
    exact Nat.and_le_left.trans_lt (by omega)
  have written : (v &&& indexMask s).toNat < 2 ^ Params.indexBits s.params := by
    rw [BitVec.toNat_and, indexMask_toNat]
    exact Nat.and_le_right.trans_lt (by omega)
  have := Nat.or_lt_two_pow kept written
  rw [masked, BitVec.toNat_or]
  omega

theorem randomValue_le (s : State) (free : Word) : randomValue s free ≤ s.params.lastIndex := by
  have hw : wiredLimit s ≤ s.params.lastIndex := Nat.min_le_right _ _
  have hmod : free.toNat % (Params.tlbSize s.params - wiredLimit s) < Params.tlbSize s.params - wiredLimit s :=
    Nat.mod_lt _ (by unfold Params.tlbSize; omega)
  unfold randomValue
  unfold Params.tlbSize at *
  omega

/-- The last element of a list with a property is an element of the list. -/
theorem foldl_last_mem (p : Nat → Bool) (l : List Nat) (found : Option Nat) {i : Nat}
    (h : l.foldl (fun found i => if p i then some i else found) found = some i) : i ∈ l ∨ found = some i := by
  induction l generalizing found with
  | nil => exact .inr h
  | cons a as ih =>
    rcases ih _ h with hmem | hfound
    · exact .inl (List.mem_cons_of_mem _ hmem)
    · dsimp only at hfound
      split at hfound
      · exact .inl (by simp [Option.some.inj hfound])
      · exact .inr hfound

theorem probeIndex_lt {i : Nat} (h : probeIndex s = some i) : i < 32 := by
  have hlast := lastIndex_lt s.params
  rcases foldl_last_mem _ _ none h with hmem | hnone
  · have := List.mem_range.1 hmem
    unfold Params.tlbSize at this
    omega
  · cases hnone

theorem probedIndex_within (h : Within 0x8000001F s.cp0.index) : Within 0x8000001F (probedIndex s) := by
  unfold probedIndex
  split
  next i hi =>
    have index : ∀ j : Fin 32, Within 0x8000001F (BitVec.ofNat 32 j) := by decide
    exact index ⟨i, probeIndex_lt hi⟩
  next => exact h.or (by decide)

theorem indexMask_within (s : State) : Within 0x8000001F (indexMask s) := by
  unfold indexMask Params.indexBits
  cases s.params.tlb32 <;> decide

/-! ### A TLB entry read into coprocessor 0 (R446) -/

theorem within_entryHi (vpn2 : BitVec 19) (asid : BitVec 8) : Within 0xFFFFE0FF (vpn2 ++ 0#5 ++ asid : BitVec 32) :=
  .of_bits fun i hi hm => by
    have gap : ∀ j : Fin 32, (0xFFFFE0FF#32).getLsbD j = false → 8 ≤ j.val ∧ j.val < 13 := by decide
    obtain ⟨h8, h13⟩ : 8 ≤ i ∧ i < 13 := gap ⟨i, hi⟩ hm
    rw [BitVec.getLsbD_append, BitVec.getLsbD_append]
    simp [show ¬i < 8 by omega, show i - 8 < 5 by omega]

theorem within_pageMask (mask : BitVec 12) : Within 0x01FFE000 (0#7 ++ mask ++ 0#13 : BitVec 32) :=
  .of_bits fun i hi hm => by
    have gap : ∀ j : Fin 32, (0x01FFE000#32).getLsbD j = false → j.val < 13 ∨ 25 ≤ j.val := by decide
    rw [BitVec.getLsbD_append, BitVec.getLsbD_append]
    have outside : i < 13 ∨ 25 ≤ i := gap ⟨i, hi⟩ hm
    rcases outside with h13 | h25
    · simp [h13]
    · simp [show ¬i < 13 by omega, show ¬i - 13 < 12 by omega]

theorem within_entryLo (p : Page) (g : Bool) : Within 0x03FFFFFF (entryLo p g) := by
  have fields : Within 0x03FFFFFF (0#6 ++ p.pfn ++ p.c ++ 0#3 : BitVec 32) := .of_bits fun i hi hm => by
    have gap : ∀ j : Fin 32, (0x03FFFFFF#32).getLsbD j = false → 26 ≤ j.val := by decide
    have h26 : 26 ≤ i := gap ⟨i, hi⟩ hm
    rw [BitVec.getLsbD_append, BitVec.getLsbD_append, BitVec.getLsbD_append]
    simp [show ¬i < 3 by omega, show ¬i - 3 < 3 by omega, show ¬i - 3 - 3 < 20 by omega]
  exact ((fields.or (.flag (by decide))).or (.flag (by decide))).or (.flag (by decide))

/-! ### Each operation keeps the invariant -/

theorem Cp0Ok.of_eq (h : Cp0Ok s) (hc : t.cp0 = s.cp0) (hp : t.params = s.params) : Cp0Ok t := by
  obtain ⟨⟩ := h
  constructor
  case wired => rwa [hc, hp]
  case random => rwa [hc, hp]
  all_goals rwa [hc]

theorem Cp0Ok.recordAddr (h : Cp0Ok s) (e : Exc) : Cp0Ok (s.withCp0 (s.cp0.recordAddr e)) := by
  unfold Cp0.recordAddr
  split
  · exact h
  · split
    · exact { h with context := h.context.putField (by decide), entryHi := h.entryHi.putField (by decide) }
    · exact { h with }

/-- R470: the entry of an exception writes Cause, Status and, for an access, the address registers. -/
theorem exceptionCp0_ok (h : Cp0Ok s) (e : Exc) : Cp0Ok (s.withCp0 (exceptionCp0 e s)) := by
  have hc : Within 0xB0C0037C (putField (putField s.cp0.cause 2 5 e.code) 28 2 e.ce) :=
    (h.cause.putField (by decide)).putField (by decide)
  have hr := h.recordAddr e
  unfold exceptionCp0
  dsimp only
  split
  · exact { hr with cause := hc, status := hr.status.setBit (by decide) }
  · exact { hr with cause := hc.setBit (by decide), status := hr.status.setBit (by decide) }

theorem debugReenter_ok (h : Cp0Ok s) (code : Word) : Cp0Ok (debugReenter code s) :=
  { h with debug := Within.putField h.debug (by decide) }

theorem takeException_ok (h : Cp0Ok s) (e : Exc) : Cp0Ok (takeException e s) := by
  unfold takeException
  split
  · exact debugReenter_ok h e.code
  · exact (exceptionCp0_ok h e).of_eq rfl rfl

theorem debugEntry_ok (h : Cp0Ok s) (c : DebugCause) : Cp0Ok (debugEntry c s) := by
  have hcause : Within 0xDC907D3F (one c.bitNo) := by cases c <;> decide
  have hd := (((Within.and_left (b := ~~~(0x8C00003F#32)) h.debug).or (.flag (b := s.inDelaySlot) (i := 31) (by decide))).or
    (show Within _ (one 30) by decide)).or (.flag (b := s.waiting) (i := 27) (by decide))
  exact { h with debug := hd.or hcause }

theorem nmiEntry_ok (h : Cp0Ok s) : Cp0Ok (nmiEntry s) := { h with status := h.status.and_left.or (by decide) }

theorem returnFromException_ok (h : Cp0Ok s) : Cp0Ok (returnFromException s) := by
  unfold returnFromException
  split
  · exact { h with status := h.status.setBit (by decide) }
  · exact { h with status := h.status.setBit (by decide) }

theorem returnFromDebug_ok (h : Cp0Ok s) : Cp0Ok (returnFromDebug s) := { h with debug := Within.and_left h.debug }

theorem debugMask_within : Within 0xDC907D3F debugMask :=
  Within.or (by decide) (.flag (by decide))

/-- R432: MTC0 writes a register through its mask, which lies within the bits that the register implements. -/
theorem cp0Write_ok (h : Cp0Ok s) (q : Cp0Reg) (v : Word) : Cp0Ok (s.withCp0 (cp0Write q v s)) := by
  cases q with
  | index => exact { h with index := h.index.masked (indexMask_within s) }
  | wired =>
    exact { h with
      wired := masked_indexMask_le h.wired, random := (toNat_ofNat_index (lastIndex_lt s.params)).le }
  | entryLo0 => exact { h with entryLo0 := h.entryLo0.masked (by decide) }
  | entryLo1 => exact { h with entryLo1 := h.entryLo1.masked (by decide) }
  | context => exact { h with context := h.context.masked (by decide) }
  | pageMask => exact { h with pageMask := h.pageMask.masked (by decide) }
  | entryHi => exact { h with entryHi := h.entryHi.masked (by decide) }
  | status => exact { h with status := h.status.maskedClear (by decide) }
  | intCtl => exact { h with intCtl := h.intCtl.masked (by decide) }
  | cause => exact { h with cause := h.cause.maskedClear (by decide) }
  | ebase => exact { h with ebase := h.ebase.masked (by decide) }
  | config7 => exact { h with config7 := h.config7.masked (by decide) }
  | watchHi => exact { h with watchHi := (h.watchHi.masked (by decide)).and_left }
  | debug => exact { h with debug := Within.masked h.debug debugMask_within }
  | errCtl => exact { h with errCtl := h.errCtl.masked (by decide) }
  | tagLo => exact { h with tagLo := h.tagLo.masked (by decide) }
  | epc | config | watchLo | depc | errorEpc | desave => exact { h with }
  | random | badVAddr | prid | config1 | config2 | config3 | llAddr | dataLo => exact h

theorem writeCp0_ok (h : Cp0Ok s) (r : Option Cp0Reg) (v : Word) : Cp0Ok (writeCp0 r v s) := by
  cases r with
  | none => exact h
  | some q => exact cp0Write_ok h q v

theorem drawRandom_ok (h : Cp0Ok s) : Cp0Ok (drawRandom s) := by
  have hr := randomValue_le s s.draw
  have hl := lastIndex_lt s.params
  exact { h with random := (toNat_ofNat_index (hr.trans_lt hl)).le.trans hr }

theorem fromEntry_ok (h : Cp0Ok s) (e : TlbEntry) : Cp0Ok (s.withCp0 (s.cp0.fromEntry e)) :=
  { h with pageMask := within_pageMask e.mask, entryHi := within_entryHi e.vpn2 e.asid,
           entryLo0 := within_entryLo _ e.g, entryLo1 := within_entryLo _ e.g }

theorem reportConflict_ok (h : Cp0Ok s) : Cp0Ok (reportConflict s) := by
  unfold reportConflict
  split
  · exact h
  · exact { h with status := h.status.setBit (by decide) }

/-- R821, R824: the reset values. -/
theorem Cp0.reset_ok (p : Params) (hc : t.cp0 = Cp0.reset p) (hp : t.params = p) : Cp0Ok t := by
  subst hp
  constructor <;> rw [hc]
  case wired => exact Nat.zero_le _
  case random => exact (toNat_ofNat_index (lastIndex_lt t.params)).le
  case status => exact (by decide : Within 0x1A68FF17 0x00400004)
  all_goals exact Within.zero

theorem Move.keeps_cp0Ok (m : Move s t) (h : Cp0Ok s) : Cp0Ok t := by
  cases m with
  | access k => exact k.cp0Ok h
  | control k => exact h.of_eq k.cp0 k.params
  | writeReg _ rd v => exact h.of_eq (s.setReg_cp0 rd v) (s.setReg_params rd v)
  | exception e => exact takeException_ok h e
  | debugEntry c => exact debugEntry_ok h c
  | debugReenter code => exact debugReenter_ok h code
  | nmi => exact nmiEntry_ok h
  | eret => exact returnFromException_ok h
  | deret => exact returnFromDebug_ok h
  | link => exact { h with llAddr := Within.shiftRight4 }
  | mtc0 r v => exact writeCp0_ok h r v
  | setIe => exact { h with status := h.status.setBit (by decide) }
  | random => exact drawRandom_ok h
  | tlbp => exact { h with index := probedIndex_within h.index }
  | tlbr _ e => exact fromEntry_ok h e
  | conflict => exact reportConflict_ok h
  | tlbWrite => exact h.of_eq rfl rfl
  | reset c => exact Cp0.reset_ok s.params (runtimeReset_cp0 c s) (runtimeReset_params c s)

end

/-- Settles O53: every move of a step keeps the reserved bits 0 and Wired and Random within the TLB. -/
theorem cp0Kept : Obligations.Cp0Kept := fun s _ h hstep =>
  ((step_reaches s).moves hstep).keeps (fun _ _ => Move.keeps_cp0Ok) h

end Sys2Proof.Machine
end

section
/-! SUPPORT. Bit fields of a word after a write of a field or a bit (00_scope.md R11), and the entry of an ordinary exception
(60_exceptions.md R470 to R474). -/

namespace Sys2Proof.Machine

/-! ### Bits and fields -/

section

variable {lo len i : Nat}

theorem bit_fieldMask (hi : i < 32) : bit (fieldMask lo len) i = decide (lo ≤ i ∧ i < lo + len) := by
  unfold bit fieldMask
  rw [BitVec.getLsbD_shiftLeft, BitVec.getLsbD_ofNat, Nat.testBit_two_pow_sub_one]
  rw [Bool.eq_iff_iff]
  simp only [Bool.and_eq_true, Bool.not_eq_true', decide_eq_true_eq, decide_eq_false_iff_not]
  omega

theorem bit_putField_in (w v : Word) (hlo : lo ≤ i) (hi : i < lo + len) (h : i < 32) :
    bit (putField w lo len v) i = bit v (i - lo) := by
  have hm : bit (fieldMask lo len) i = true := by rw [bit_fieldMask h]; simp [hlo, hi]
  unfold bit at *
  simp only [putField, BitVec.getLsbD_or, BitVec.getLsbD_and, BitVec.getLsbD_not, BitVec.getLsbD_shiftLeft, hm]
  simp [h, show ¬i < lo by omega]

theorem bit_putField_out (w v : Word) (hi : i < lo ∨ lo + len ≤ i) (h : i < 32) : bit (putField w lo len v) i = bit w i := by
  have hm : bit (fieldMask lo len) i = false := by rw [bit_fieldMask h]; simp; omega
  unfold bit at *
  simp only [putField, BitVec.getLsbD_or, BitVec.getLsbD_and, BitVec.getLsbD_not, hm]
  simp [h]

theorem bit_one (h : i < 32) (j : Nat) : bit (one j) i = decide (i = j) := by
  unfold bit one
  rw [BitVec.getLsbD_shiftLeft, BitVec.getLsbD_one, Bool.eq_iff_iff]
  simp only [Bool.and_eq_true, Bool.not_eq_true', decide_eq_true_eq, decide_eq_false_iff_not]
  omega

theorem bit_setBit (w : Word) (b : Bool) (h : i < 32) (j : Nat) : bit (setBit w j b) i = if i = j then b else bit w i := by
  have ho := bit_one h j
  unfold bit at *
  cases b with
  | true =>
    simp only [setBit, if_true, BitVec.getLsbD_or, ho]
    by_cases hij : i = j <;> simp [hij]
  | false =>
    simp only [setBit, Bool.false_eq_true, if_false, BitVec.getLsbD_and, BitVec.getLsbD_not, ho]
    by_cases hij : i = j <;> simp [hij, h]

/-- A field is its bits. -/
theorem field_congr {w u : Word} {hi : Nat} (h : ∀ i < len, bit w (lo + i) = bit u (hi + i)) :
    field w lo len = field u hi len := by
  unfold field
  congr 1
  apply BitVec.eq_of_getLsbD_eq
  intro i hi
  rw [BitVec.getLsbD_extractLsb', BitVec.getLsbD_extractLsb', decide_eq_true hi]
  simpa [bit] using h i hi

theorem field_putField_same (w v : Word) (h : lo + len ≤ 32) : field (putField w lo len v) lo len = field v 0 len :=
  field_congr fun i hi => by
    rw [bit_putField_in w v (by omega) (by omega) (by omega), Nat.add_sub_cancel_left, Nat.zero_add]

theorem field_putField_other (w v : Word) {lo' len' : Nat} (h : lo + len ≤ 32) (hd : lo + len ≤ lo' ∨ lo' + len' ≤ lo) :
    field (putField w lo' len' v) lo len = field w lo len :=
  field_congr fun i hi => bit_putField_out w v (by omega) (by omega)

theorem field_setBit_other (w : Word) (b : Bool) {j : Nat} (h : lo + len ≤ 32) (hd : j < lo ∨ lo + len ≤ j) :
    field (setBit w j b) lo len = field w lo len :=
  field_congr fun i hi => by rw [bit_setBit w b (by omega), if_neg (by omega)]

end

/-! ### The CP0 registers after an exception -/

section

variable (c : Cp0) (e : Exc) (s : State)

/-- R472: recording the failing address changes the address registers alone. -/
theorem Cp0.recordAddr_rest : c.recordAddr e =
    { c with badVAddr := (c.recordAddr e).badVAddr, context := (c.recordAddr e).context, entryHi := (c.recordAddr e).entryHi } := by
  unfold Cp0.recordAddr
  split
  · rfl
  · split <;> rfl

@[simp] theorem Cp0.recordAddr_epc : (c.recordAddr e).epc = c.epc := by rw [Cp0.recordAddr_rest]
@[simp] theorem Cp0.recordAddr_status : (c.recordAddr e).status = c.status := by rw [Cp0.recordAddr_rest]

/-- R470: Cause with the code of the exception and the number of the coprocessor. -/
def exceptionCause : Word := putField (putField s.cp0.cause 2 5 e.code) 28 2 e.ce

/-- R470: Cause.BD changes only with EXL = 0. -/
theorem exceptionCp0_cause : (exceptionCp0 e s).cause =
    if s.exl then exceptionCause e s else setBit (exceptionCause e s) 31 s.inDelaySlot := by
  unfold exceptionCp0
  dsimp only
  split <;> rfl

/-- R470: EPC changes only with EXL = 0. -/
theorem exceptionCp0_epc : (exceptionCp0 e s).epc = if s.exl then s.cp0.epc else s.restartPc := by
  unfold exceptionCp0
  dsimp only
  split
  · exact Cp0.recordAddr_epc _ _
  · rfl

theorem exceptionCp0_status : (exceptionCp0 e s).status = s.cp0.status ||| 2 := by
  unfold exceptionCp0
  dsimp only
  split <;> exact congrArg (· ||| 2) (Cp0.recordAddr_status _ _)

theorem exceptionCp0_code : field (exceptionCp0 e s).cause 2 5 = field e.code 0 5 := by
  have hc : field (exceptionCause e s) 2 5 = field e.code 0 5 := by
    rw [exceptionCause, field_putField_other _ _ (by omega) (by omega), field_putField_same _ _ (by omega)]
  rw [exceptionCp0_cause]
  split
  · exact hc
  · rw [field_setBit_other _ _ (by omega) (by omega), hc]

theorem exceptionCp0_ce : field (exceptionCp0 e s).cause 28 2 = field e.ce 0 2 := by
  have hc : field (exceptionCause e s) 28 2 = field e.ce 0 2 := field_putField_same _ _ (by omega)
  rw [exceptionCp0_cause]
  split
  · exact hc
  · rw [field_setBit_other _ _ (by omega) (by omega), hc]

theorem exceptionCp0_bd (h : s.exl = false) : bit (exceptionCp0 e s).cause 31 = s.inDelaySlot := by
  rw [exceptionCp0_cause, h]
  exact (bit_setBit _ _ (by omega) _).trans (if_pos rfl)

theorem exceptionCp0_bd_kept (h : s.exl = true) : bit (exceptionCp0 e s).cause 31 = bit s.cp0.cause 31 := by
  rw [exceptionCp0_cause, h, if_pos rfl, exceptionCause, bit_putField_out _ _ (by omega) (by omega),
    bit_putField_out _ _ (by omega) (by omega)]

/-- R43: every code fits into the five bits of ExcCode. -/
theorem Exc.field_code : field e.code 0 5 = e.code.toNat := by cases e <;> rfl

end

section

variable {e : Exc} {s : State}

/-- R470: with EXL = 0 the exception keeps the restart address, and has a vector of its own. -/
theorem exceptionEntry_exl0 (h : s.exl = false) :
    (exceptionEntry e s).cp0.epc = s.restartPc ∧ (exceptionEntry e s).pc = s.vectorBase + e.offset := by
  refine ⟨(exceptionCp0_epc e s).trans (by simp [h]), ?_⟩
  rw [exceptionEntry, h]
  rfl

/-- R470: with EXL = 1 EPC keeps its value, and the vector is the general one. -/
theorem exceptionEntry_exl1 (h : s.exl = true) :
    (exceptionEntry e s).cp0.epc = s.cp0.epc ∧ (exceptionEntry e s).pc = s.vectorBase + 0x180 := by
  refine ⟨(exceptionCp0_epc e s).trans (by simp [h]), ?_⟩
  rw [exceptionEntry, h]
  rfl

end

/-- Settles O26: outside debug mode an exception is taken by the model's `exceptionEntry`, whose CP0 part is `exceptionCp0`. The
model's function has the plain name, hence the suffix. -/
theorem exceptionEntry_holds : Obligations.ExceptionEntry := by
  refine ⟨fun off va refill n => rfl, fun s e hdm => ?_⟩
  dsimp only
  rw [takeException_outside e s hdm]
  refine ⟨(exceptionCp0_code e s).trans e.field_code, (exceptionCp0_ce e s).trans ?ce, exceptionCp0_status e s, rfl, rfl, rfl,
    fun hexl => ?exl0, fun hexl => ?exl1⟩
  case ce =>
    cases e with
    | cpu n => revert n; decide
    | _ => rfl
  case exl0 =>
    obtain ⟨hepc, hpc⟩ := exceptionEntry_exl0 (e := e) hexl
    refine ⟨hepc, exceptionCp0_bd e s hexl, hpc.trans (congrArg (s.vectorBase + ·) ?_)⟩
    cases e with
    | tlbl va refill | tlbs va refill => cases refill <;> rfl
    | _ => rfl
  case exl1 =>
    obtain ⟨hepc, hpc⟩ := exceptionEntry_exl1 (e := e) hexl
    exact ⟨hepc, exceptionCp0_bd_kept e s hexl, hpc⟩

end Sys2Proof.Machine
end

section
/-! SUPPORT. WAIT, the waiting core, and what ends the wait (45_trap_system.md R425, 10_state.md R72). -/

namespace Sys2Proof.Machine

section

variable {s t : State}

/-! ### WAIT -/

theorem enterPowerMode_view (lpm : Nat) (s : State) :
    { (enterPowerMode lpm s).view with powerMode := s.powerMode } = s.view := by
  have pins : (hibernatePins s).view = s.view := (hibernatePins_dev (.refl s)).view
  unfold enterPowerMode
  split
  · rfl
  · rfl
  · exact congrArg (fun v : CoreView => { v with powerMode := s.powerMode }) pins

/-- R425, R545: outside the device part WAIT changes the power mode and the wait, and advances. -/
theorem startWait_view (lpm : Nat) (s : State) :
    { (startWait lpm s).view with
      powerMode := s.powerMode, pc := s.pc, pending := s.pending, inDelaySlot := s.inDelaySlot, waiting := s.waiting } =
    s.view :=
  congrArg (fun v : CoreView =>
    { v with pc := s.pc, pending := s.pending, inDelaySlot := s.inDelaySlot, waiting := s.waiting })
    (enterPowerMode_view lpm (s.ioMod Adr.LCR 0 (one 2)))

theorem startWait_advanced (lpm : Nat) (s : State) : Advanced s (startWait lpm s) := by
  have entered := enterPowerMode_view lpm (s.ioMod Adr.LCR 0 (one 2))
  have hpc : (enterPowerMode lpm (s.ioMod Adr.LCR 0 (one 2))).pc = s.pc := (congrArg CoreView.pc entered :)
  have hpending : (enterPowerMode lpm (s.ioMod Adr.LCR 0 (one 2))).pending = s.pending := (congrArg CoreView.pending entered :)
  refine ⟨?_, rfl, rfl⟩
  rw [← hpc, ← hpending]
  rfl

theorem execWait_eq (code : BitVec 19) (hu : s.cp0Usable = true) (hs : s.inDelaySlot = false)
    (hl : field (s.ioGet Adr.LCR) 0 2 ≠ 3) : execWait code s = .next (startWait (field (s.ioGet Adr.LCR) 0 2) s) := by
  simp [execWait, privileged, outsideSlot, hu, hs, hl]

theorem SameMemory.of_mem (h : t.mem = s.mem) : SameMemory s t := fun k => by rw [State.memByte, h]; rfl

/-! ### A core that goes on waiting -/

/-- `t` differs from `s` at most in the power mode and in the record of a step. -/
def Idled (s t : State) : Prop := { t with powerMode := s.powerMode, stepped := s.stepped } = s

theorem Idled.trans {u : State} (h : Idled s t) (k : Idled t u) : Idled s u := by
  unfold Idled at h k
  exact (congrArg (fun v : State => { v with powerMode := s.powerMode, stepped := s.stepped }) k).trans h

theorem wakeClocks_idled (s : State) : Idled s (wakeClocks s) := by unfold wakeClocks; split <;> rfl

theorem completed_idled (before after : State) : Idled after (completed before after) := by unfold completed; split <;> rfl

@[simp] theorem wakeClocks_waiting (s : State) : (wakeClocks s).waiting = s.waiting := by unfold wakeClocks; split <;> rfl
@[simp] theorem wakeClocks_ioGet (s : State) (a : Nat) : (wakeClocks s).ioGet a = s.ioGet a := by unfold wakeClocks; split <;> rfl
@[simp] theorem wakeClocks_singleStepDue (s : State) : singleStepDue (wakeClocks s) = singleStepDue s := by
  unfold wakeClocks; split <;> rfl
/-- What wakes the core does not depend on its clock. -/
@[simp] theorem wakeClocks_wakeDue (s : State) : wakeDue (wakeClocks s) = wakeDue s := by unfold wakeClocks; split <;> rfl

/-- R546: without DOZE there is none to cancel. -/
theorem wakeDoze_noDoze (h : bit (s.ioGet Adr.LCR) 2 = false) : wakeDoze s = s := by simp [wakeDoze, h]

theorem wakeDue_iff : wakeDue s = true ↔
    enabledRequests s ≠ 0 ∨ s.nmiReq = true ∨ s.dintReq = true ∨ bit s.ejtag.ecr 12 = true := by
  simp [wakeDue, debugInterruptAsked, or_assoc]

theorem wakeDue_eq_false : wakeDue s = false ↔
    enabledRequests s = 0 ∧ s.nmiReq = false ∧ debugInterruptAsked s = false := by
  simp [wakeDue, and_assoc]

/-- R425: a waiting core without a request executes nothing. -/
theorem stepRunning_asleep (hw : s.waiting = true) (hd : wakeDue s = false) (hs : singleStepDue s = false) :
    stepRunning s = .next s := by
  obtain ⟨-, hnmi, hdebug⟩ := wakeDue_eq_false.1 hd
  simp [stepRunning, runOrInterrupt, nmiDue, debugInterruptDue, hs, hnmi, hdebug, hw, hd]

theorem stepCore_asleep (hw : s.waiting = true) (hr : s.resetReq = none) (hl : bit (s.ioGet Adr.LCR) 2 = false)
    (hd : wakeDue s = false) (hs : singleStepDue s = false) : Next (stepCore s) (Idled s) := by
  have noDoze : wakeDoze (wakeClocks s) = wakeClocks s := wakeDoze_noDoze (by simpa using hl)
  have asleep : stepRunning (wakeClocks s) = .next (wakeClocks s) :=
    stepRunning_asleep (by simpa using hw) (by simpa using hd) (by simpa using hs)
  unfold stepCore
  rw [hr]
  dsimp only
  rw [noDoze, asleep]
  split
  · exact ⟨_, rfl, wakeClocks_idled s⟩
  · exact ⟨_, rfl, (wakeClocks_idled s).trans (completed_idled _ _)⟩

/-- An empty write buffer leaves nothing to settle. -/
theorem settled_empty (h : t.wbuf = []) : settled true (.next t) = .next t := by
  simp [settled, drainAll_nil h, Res.toOut, Res.out]

/-! ### A request ends the wait -/

/-- The state in which the core has stopped waiting. -/
def State.awake (s : State) : State := { s with waiting := false }

theorem runOrInterrupt_woken (h : wakeDue s = true) : runOrInterrupt s = runOrInterrupt s.awake := by
  have goesOn : ¬(s.waiting && !wakeDue s) = true := by simp [h]
  have goesOn' : ¬(s.awake.waiting && !wakeDue s.awake) = true := by simp [State.awake]
  unfold runOrInterrupt
  rw [if_neg goesOn, if_neg goesOn']
  rfl

/-- R425, R72: with a wake condition, and no debug exception to take, the wait makes no difference. -/
theorem stepRunning_woken (h : wakeDue s = true) (hs : singleStepDue s = false) (hd : debugInterruptDue s = false) :
    stepRunning s = stepRunning s.awake := by
  have hs' : singleStepDue s.awake = false := hs
  have hd' : debugInterruptDue s.awake = false := hd
  have hn : nmiDue s.awake = nmiDue s := rfl
  have he : nmiEntry s.awake = nmiEntry s := rfl
  simp only [stepRunning, hs, hd, hs', hd', hn, he, runOrInterrupt_woken h, Bool.false_eq_true, if_false]

theorem step_running (ha : s.agenda = []) (hr : s.resetReq = none) (hp : s.powerMode = .normal)
    (hl : bit (s.ioGet Adr.LCR) 2 = false) : step s = settled true (onNext (completed s) (stepRunning s)) := by
  rw [step_alone ha, stepCore_running hr hp hl]

end

/-- Settles O45: WAIT is `startWait`, a core that goes on waiting keeps its state, and to a woken one the wait makes no
difference. -/
theorem waiting : Obligations.Waiting := by
  refine fun s code => ⟨fun hu hs hl => ⟨_, execWait_eq code hu hs hl, rfl, startWait_advanced _ s, ?starts⟩,
    fun hw ha hr hl hd hs hb => ?asleep, fun _ ha hr hl hp hreq hs hd => ?woken⟩
  case starts =>
    have kept := startWait_view (field (s.ioGet Adr.LCR) 0 2) s
    exact ⟨(congrArg CoreView.gpr kept :), (congrArg CoreView.cp0 kept :), (congrArg CoreView.tlb kept :),
      (congrArg CoreView.hi kept :), (congrArg CoreView.lo kept :), (congrArg CoreView.llBit kept :),
      .of_mem (congrArg CoreView.mem kept :)⟩
  case asleep =>
    obtain ⟨t, hstep, idled⟩ := stepCore_asleep hw hr hl hd hs
    have hwbuf : t.wbuf = [] := (congrArg State.wbuf idled :).trans hb
    rw [step_alone ha, hstep, settled_empty hwbuf]
    exact ⟨t, rfl, (congrArg State.waiting idled :).trans hw, (congrArg State.pc idled :), (congrArg State.gpr idled :),
      (congrArg State.cp0 idled :), .of_mem (congrArg State.mem idled :)⟩
  case woken =>
    have awake : step s.awake = settled true (onNext (completed s) (stepRunning s.awake)) := step_running ha hr hp hl
    rw [step_running ha hr hp hl, stepRunning_woken (wakeDue_iff.2 hreq) hs hd]
    exact awake.symm

end Sys2Proof.Machine
end

section
/-! SUPPORT. The canonical form of memory, device registers and caches (20_memory.md R101): every move of a step keeps it. -/

namespace Sys2Proof.Machine

/-- What the canonical form speaks of: the parameters, memory, the device registers and the caches. -/
def State.storage (s : State) : Params × List Host.Cell × List (Nat × Word) × List (Nat × CacheLine) × List (Nat × CacheLine) :=
  (s.params, s.mem, s.io, s.icache, s.dcache)

section

variable {s t : State}

theorem StorageOk.of_eq (h : StorageOk s) (e : t.storage = s.storage) : StorageOk t := by
  simp only [State.storage, Prod.mk.injEq] at e
  obtain ⟨hp, hm, hio, hi, hd⟩ := e
  unfold StorageOk at *
  rwa [hp, hm, hio, hi, hd]

theorem ControlStep.storage (h : ControlStep s t) : t.storage = s.storage := (congrArg State.storage h :)

theorem setReg_storage (s : State) (rd : Reg) (v : Word) : (s.setReg rd v).storage = s.storage := by
  rw [State.setReg_rest]
  rfl

theorem takeException_storage (e : Exc) (s : State) : (takeException e s).storage = s.storage := by
  rw [takeException_rest]
  rfl

theorem returnFromException_storage (s : State) : (returnFromException s).storage = s.storage := by
  unfold returnFromException
  split <;> rfl

theorem writeCp0_storage (r : Option Cp0Reg) (v : Word) (s : State) : (writeCp0 r v s).storage = s.storage := by
  cases r <;> rfl

theorem reportConflict_storage (s : State) : (reportConflict s).storage = s.storage := by
  unfold reportConflict
  split <;> rfl

/-! ### Resets -/

/-- A reset starts from empty device registers and writes those it keeps. -/
theorem runtimeReset_io (c : ResetCause) (s : State) : IoOk (runtimeReset c s) := by
  have kept : DevStep _ (runtimeReset c s) := holdPins_dev c (keepRtcgr_dev s (keepRegs_dev s (keptRegs c) (.refl _)).ioSet)
  exact kept.io rfl

theorem memAfterReset_wf (c : ResetCause) (h : Memory.wf s.mem = true) : Memory.wf (memAfterReset c s) = true := by
  unfold memAfterReset
  split
  · exact Sparse.wf_filter memDefault _ h
  · exact h

theorem runtimeReset_storageOk (c : ResetCause) (h : StorageOk s) : StorageOk (runtimeReset c s) := by
  obtain ⟨hmem, -, -, -⟩ := h
  have view := runtimeReset_view c s
  have mem : (runtimeReset c s).mem = memAfterReset c s := (congrArg CoreView.mem view :)
  have icache : (runtimeReset c s).icache = [] := (congrArg CoreView.icache view :)
  have dcache : (runtimeReset c s).dcache = [] := (congrArg CoreView.dcache view :)
  refine ⟨?_, runtimeReset_io c s, ?_, ?_⟩
  · rw [mem]; exact memAfterReset_wf c hmem
  · rw [icache]; rfl
  · rw [dcache]; rfl

/-! ### Every move -/

theorem Move.keeps_storageOk (m : Move s t) (h : StorageOk s) : StorageOk t := by
  cases m with
  | access k => exact k.storage h
  | control k => exact h.of_eq k.storage
  | writeReg _ rd v => exact h.of_eq (setReg_storage s rd v)
  | exception e => exact h.of_eq (takeException_storage e s)
  | eret => exact h.of_eq (returnFromException_storage s)
  | mtc0 r v => exact h.of_eq (writeCp0_storage r v s)
  | conflict => exact h.of_eq (reportConflict_storage s)
  | reset c => exact runtimeReset_storageOk c h
  | debugEntry | debugReenter | nmi | deret | link | setIe | random | tlbp | tlbr | tlbWrite => exact h.of_eq rfl

end

/-- Settles O51: every move of a step keeps the canonical form. -/
theorem storageKept : Obligations.StorageKept := fun s _ h hstep =>
  ((step_reaches s).moves hstep).keeps (fun _ _ => Move.keeps_storageOk) h

end Sys2Proof.Machine
end

section
/-! SUPPORT. What the other agents leave alone (20_memory.md R145, 60_exceptions.md R512): an event is a bus step, and takes no
exception. -/

namespace Sys2Proof.Machine

section

variable {α β : Type} {s t : State}

/-! ### Answers without an exception

Exceptions, debug exceptions and waits for the probe belong to the core: what the other agents do answers a state or stops. -/

/-- The answer is a state or a stop. -/
def Res.NoException : Res α → Prop
  | .ok _ _ => True
  | .fault _ => True
  | .refused _ => True
  | _ => False

theorem Res.NoException.bind {r : Res α} {k : α → State → Res β} (h : r.NoException) (hk : ∀ a t, (k a t).NoException) :
    (r.bind k).NoException := by
  cases r with
  | ok a t => exact hk a t
  | fault | refused => exact True.intro
  | exc | dbg | stall => exact h.elim

theorem Res.NoException.ite {c : Prop} [Decidable c] {a b : Res α} (ha : a.NoException) (hb : b.NoException) :
    (if c then a else b).NoException := by split <;> assumption

/-- A device operation takes no exception. -/
theorem Res.Dev.noException {r : Res α} (h : r.Dev s) : r.NoException := by
  cases r with
  | ok | fault | refused => exact True.intro
  | exc | dbg | stall => exact h.elim

theorem Res.NoException.toOut_next {r : Res Unit} (h : r.NoException) (ho : r.toOut = .next t) : r = .ok () t := by
  cases r with
  | ok a u => exact congrArg (Res.ok ()) (Host.Outcome.next.inj ho)
  | fault | refused => cases ho
  | exc | dbg | stall => exact h.elim

theorem busRead_noException {n pa : Nat} : (busRead n pa s).NoException := by
  unfold busRead
  split
  · exact True.intro
  · exact .ite True.intro (.ite True.intro True.intro)
  · exact .ite True.intro (.ite True.intro True.intro)
  · exact .ite True.intro True.intro
  all_goals exact True.intro

theorem busWrite_noException {bs : List Byte} {pa : Nat} : (busWrite bs pa s).NoException := by
  unfold busWrite
  split
  · exact True.intro
  · exact True.intro
  · exact .ite True.intro (.ite True.intro (ioWrite_dev _ _).noException)
  · exact .ite True.intro (.ite True.intro True.intro)
  · exact .ite True.intro True.intro
  all_goals exact True.intro

theorem drainOne_noException : (drainOne s).NoException := by
  unfold drainOne
  split
  · exact True.intro
  · exact busWrite_noException

/-! ### The DMA controller -/

theorem dmaRead_noException {n : Nat} : (dmaRead n s).NoException := by
  refine .ite True.intro (.ite True.intro (.bind ?_ fun _ _ => True.intro))
  exact .ite (busRead_noException.bind fun _ _ => True.intro) busRead_noException

theorem dmaWrite_noException {n size : Nat} : (dmaWrite n size s).NoException := by
  refine .ite True.intro (.ite True.intro (.bind ?_ fun _ _ => True.intro))
  exact .ite busWrite_noException busWrite_noException

theorem dmaAccess_noException {n : Nat} : (dmaAccess n s).NoException := .ite dmaRead_noException dmaWrite_noException

theorem dmaBlock_noException {n k : Nat} : (dmaBlock n k s).NoException := by
  induction k generalizing s with
  | zero => exact True.intro
  | succ k ih => exact .ite True.intro (dmaAccess_noException.bind fun _ _ => ih)

theorem dmaGo_noException {n : Nat} : (dmaGo n s).NoException := .ite dmaBlock_noException dmaAccess_noException

theorem dmaUnit_noException : (dmaUnit s).NoException := by
  refine .ite True.intro ?_
  split
  · exact .ite dmaGo_noException True.intro
  · split
    · exact True.intro
    · exact dmaGo_noException

/-! ### The LCD controller and the camera interface -/

theorem masterRead_noException {a : Word} : (masterRead a s).NoException := busRead_noException.bind fun _ _ => True.intro

theorem lcdStep_noException {c : BitVec 1} : (lcdStep c s).NoException :=
  .ite True.intro (.ite (masterRead_noException.bind fun _ _ => .ite True.intro True.intro)
    (masterRead_noException.bind fun _ _ => True.intro))

theorem cimFetch_noException : (cimFetch s).NoException :=
  masterRead_noException.bind fun _ _ => .ite True.intro (.ite True.intro True.intro)

theorem cimStep_noException : (cimStep s).NoException := by
  refine .ite True.intro (.ite (.ite True.intro cimFetch_noException) ?_)
  split
  · exact True.intro
  · exact busWrite_noException.bind fun _ _ => True.intro

/-! ### The Ethernet MAC -/

theorem ethReadDesc_noException {eb d : Word} {n : Nat} {k : Word → State → Res Unit} (hk : ∀ w t, (k w t).NoException) :
    (ethReadDesc eb d n s k).NoException :=
  .ite True.intro (busRead_noException.bind fun _ _ => hk _ _)

theorem ethWriteDesc_noException {eb d v : Word} {k : State → Res Unit} (hk : ∀ t, (k t).NoException) :
    (ethWriteDesc eb d v s k).NoException :=
  .ite True.intro (busWrite_noException.bind fun _ _ => hk _)

theorem ethTxMove_noException {a : Word} {size : Nat} {next : State → State} : (ethTxMove a size next s).NoException :=
  .ite True.intro (busRead_noException.bind fun _ _ => True.intro)

theorem ethRxMove_noException {a : Word} {size : Nat} {next : State → State} : (ethRxMove a size next s).NoException :=
  .ite True.intro (busWrite_noException.bind fun _ _ => True.intro)

theorem ethTxFetch_noException {n : Nat} : (ethTxFetch n s).NoException :=
  ethReadDesc_noException fun _ _ => .ite True.intro True.intro

theorem ethRxFetch_noException {n : Nat} : (ethRxFetch n s).NoException :=
  ethReadDesc_noException fun _ _ => .ite True.intro True.intro

theorem ethTxClose_noException {ev : Word} : (ethTxClose ev s).NoException := by
  unfold ethTxClose
  split
  · exact True.intro
  · refine .ite True.intro ?_
    split
    · exact True.intro
    · exact ethWriteDesc_noException fun _ => True.intro

theorem ethTxStep_noException {status : Word} : (ethTxStep status s).NoException := by
  refine .ite True.intro ?_
  split
  · exact ethTxFetch_noException
  · exact ethTxMove_noException
  · exact ethTxMove_noException
  · exact ethWriteDesc_noException fun _ => True.intro
  · exact .ite True.intro ethTxClose_noException
  · exact ethTxClose_noException
  · exact True.intro

theorem ethRxRelease_noException : (ethRxRelease s).NoException := by
  unfold ethRxRelease
  dsimp only
  split
  · exact True.intro
  · exact ethWriteDesc_noException fun _ => True.intro

theorem ethRxClose_noException : (ethRxClose s).NoException := by
  unfold ethRxClose
  dsimp only
  split
  · exact True.intro
  · exact ethWriteDesc_noException fun _ => True.intro

theorem ethRxStep_noException : (ethRxStep s).NoException := by
  refine .ite True.intro ?_
  split
  · exact ethRxFetch_noException
  · exact ethRxMove_noException
  · exact ethRxMove_noException
  · exact ethRxRelease_noException
  · exact ethRxClose_noException
  · exact True.intro

/-! ### Events (R145, R512) -/

theorem applyEvent_noException (e : Event) (s : State) : (applyEvent e s).NoException := by
  cases e with
  | drain => exact .ite drainOne_noException True.intro
  | dmaUnit => exact dmaUnit_noException
  | lcdStep c => exact lcdStep_noException
  | cimStep => exact cimStep_noException
  | ethTxStep status => exact ethTxStep_noException
  | ethRxStep => exact ethRxStep_noException
  | _ => exact True.intro

/-- R512: an event that is not the core's turn is what the agenda's head does to the state. -/
theorem step_event {e : Event} {rest : List Event} (ha : s.agenda = e :: rest) (he : e ≠ .core) :
    step s = (applyEvent e { s with agenda := rest }).toOut := by
  unfold step
  rw [ha]
  cases e with
  | core => exact absurd rfl he
  | _ => rfl

/-- An event that goes on is a bus step of the state without it. -/
theorem BusStep.of_event {e : Event} {rest : List Event} (ha : s.agenda = e :: rest) (he : e ≠ .core)
    (hstep : step s = .next t) : BusStep { s with agenda := rest } t := by
  rw [step_event ha he] at hstep
  exact (applyEvent_bus e).of_ok ((applyEvent_noException e _).toOut_next hstep)

end

/-- Settles O58: an event is a bus step, and takes no exception. -/
theorem agentsLeaveCore : Obligations.AgentsLeaveCore := fun s t e rest ha he hstep => by
  have core := (BusStep.of_event ha he hstep).core
  exact ⟨(congrArg CoreView.gpr core :), (congrArg CoreView.hi core :), (congrArg CoreView.lo core :),
    (congrArg CoreView.pc core :), (congrArg CoreView.pending core :), (congrArg CoreView.cp0 core :),
    (congrArg CoreView.tlb core :), (congrArg CoreView.icache core :), (congrArg CoreView.dcache core :),
    (congrArg CoreView.llBit core :), (congrArg CoreView.params core :)⟩

end Sys2Proof.Machine
end

section
/-! SUPPORT. The segments (20_memory.md R105), and an access that raises an exception before any data moves (R104, R106, R350). -/

namespace Sys2Proof.Machine

section

variable {va : Word} {k : Kind} {s : State} {n : Nat} {e : Exc} {l : Lanes} {v : Word} {rt base : Reg} {off : Imm16}

/-! ### Segments -/

theorem bit31_iff : bit va 31 = true ↔ 0x80000000 ≤ va.toNat := by
  have h : va.msb = bit va 31 := BitVec.msb_eq_getLsbD_last va
  rw [← h, BitVec.msb_eq_decide]
  simp

/-- A 512 MB segment is a value of the top three bits. -/
theorem segment_iff (i : Nat) (hi : i < 8) :
    (va.extractLsb' 29 3 == BitVec.ofNat 3 i) = true ↔ i * 0x20000000 ≤ va.toNat ∧ va.toNat < (i + 1) * 0x20000000 := by
  have hv := va.isLt
  rw [beq_iff_eq, ← BitVec.toNat_inj, BitVec.extractLsb'_toNat, BitVec.toNat_ofNat, Nat.shiftRight_eq_div_pow]
  omega

theorem inKseg0_iff : inKseg0 va = true ↔ 0x80000000 ≤ va.toNat ∧ va.toNat < 0xA0000000 := segment_iff 4 (by decide)

theorem inKseg1_iff : inKseg1 va = true ↔ 0xA0000000 ≤ va.toNat ∧ va.toNat < 0xC0000000 := segment_iff 5 (by decide)

theorem inKuseg_iff : inKuseg va = true ↔ va.toNat < 0x80000000 := by
  have h := bit31_iff (va := va)
  unfold inKuseg
  rw [Bool.not_eq_true', ← Bool.not_eq_true, h]
  omega

/-- Clearing the three top bits takes the address back to the start of the segment. -/
theorem unmapped_eq (b : Nat) (hb : b % 0x20000000 = 0) (hlo : b ≤ va.toNat) (hhi : va.toNat < b + 0x20000000) :
    va &&& 0x1FFFFFFF = BitVec.ofNat 32 (va.toNat - b) := by
  apply BitVec.eq_of_toNat_eq
  have hmask : (0x1FFFFFFF#32).toNat = 2 ^ 29 - 1 := rfl
  rw [BitVec.toNat_and, BitVec.toNat_ofNat]
  show va.toNat &&& (0x1FFFFFFF#32).toNat = _
  rw [hmask, Nat.and_two_pow_sub_one_eq_mod]
  have hv := va.isLt
  omega

theorem translate_userError (hu : s.userMode = true) (h : bit va 31 = true) :
    translate va k s = .exc (k.addrError va) s := by
  simp [translate, hu, h]

theorem translate_kseg0 (hu : s.userMode = false) (h : inKseg0 va = true) :
    translate va k s = .ok (va &&& 0x1FFFFFFF, s.cp0.k0) s := by
  simp [translate, hu, h]

theorem translate_kseg1 (hu : s.userMode = false) (h0 : inKseg0 va = false) (h : inKseg1 va = true) :
    translate va k s = .ok (va &&& 0x1FFFFFFF, 2) s := by
  simp [translate, hu, h0, h]

theorem translate_below (h : va.toNat < 0x80000000) :
    translate va k s = if s.erl then .ok (va, 2) s else tlbLookup va k s := by
  have h31 : bit va 31 = false := by rw [← Bool.not_eq_true, bit31_iff]; omega
  have h0 : inKseg0 va = false := by rw [← Bool.not_eq_true, inKseg0_iff]; omega
  have h1 : inKseg1 va = false := by rw [← Bool.not_eq_true, inKseg1_iff]; omega
  simp [translate, h31, h0, h1, inKuseg]

theorem translate_above (h : 0xC0000000 ≤ va.toNat) (hu : s.userMode = false) : translate va k s = tlbLookup va k s := by
  have h0 : inKseg0 va = false := by rw [← Bool.not_eq_true, inKseg0_iff]; omega
  have h1 : inKseg1 va = false := by rw [← Bool.not_eq_true, inKseg1_iff]; omega
  have hk : inKuseg va = false := by rw [← Bool.not_eq_true, inKuseg_iff]; omega
  simp [translate, hu, h0, h1, hk]

/-! ### Accesses that raise an exception -/

theorem readLanes_exc (hd : dataDseg va s = false) (ht : translate va .load s = .exc e s) : readLanes va l s = .exc e s := by
  simp [readLanes, hd, prepare, ht, Res.bind]

theorem writeLanes_exc (hd : dataDseg va s = false) (ht : translate va .store s = .exc e s) :
    writeLanes va l v s = .exc e s := by
  simp [writeLanes, hd, prepare, ht, Res.bind]

theorem memReadPa_exc (ha : va.toNat % n = 0) (hd : dataDseg va s = false) (ht : translate va .load s = .exc e s) :
    memReadPa va n s = .exc e s := by
  simp [memReadPa, aligned, ha, readLanes_exc hd ht]

theorem memWrite_exc (ha : va.toNat % n = 0) (hd : dataDseg va s = false) (ht : translate va .store s = .exc e s) :
    memWrite va n v s = .exc e s := by
  simp [memWrite, aligned, ha, writeLanes_exc hd ht]

theorem checkStore_exc (ha : va.toNat % 4 = 0) (hd : dataDseg va s = false) (ht : translate va .store s = .exc e s) :
    checkStore va s = .exc e s := by
  simp [checkStore, aligned, ha, hd, ht, Res.bind]

theorem memReadPa_misaligned (ha : va.toNat % n ≠ 0) : memReadPa va n s = .exc (.adel va) s := by
  simp [memReadPa, aligned, ha]

theorem memWrite_misaligned (ha : va.toNat % n ≠ 0) : memWrite va n v s = .exc (.ades va) s := by
  simp [memWrite, aligned, ha]

theorem checkStore_misaligned (ha : va.toNat % 4 ≠ 0) : checkStore va s = .exc (.ades va) s := by
  simp [checkStore, aligned, ha]

/-! ### The instruction then takes it -/

theorem load_exc {ext : Word → Word} (h : memReadPa (effAddr base off s) n s = .exc e s) :
    load rt base off n ext s = .next (takeException e s) := by
  simp [load, memRead, h, Res.bind, Res.out, raise]

theorem execLl_exc (h : memReadPa (effAddr base off s) 4 s = .exc e s) : execLl rt base off s = .next (takeException e s) := by
  simp [execLl, h, Res.out, raise]

theorem store_exc (h : memWrite (effAddr base off s) n (s.reg rt) s = .exc e s) :
    store rt base off n s = .next (takeException e s) := by
  simp [store, h, Res.out, raise]

theorem execLwl_exc (h : readLanes (effAddr base off s) (leftLanes (effAddr base off s) s) s = .exc e s) :
    execLwl rt base off s = .next (takeException e s) := by
  simp [execLwl, h, Res.out, raise]

theorem execLwr_exc (h : readLanes (effAddr base off s) (rightLanes (effAddr base off s) s) s = .exc e s) :
    execLwr rt base off s = .next (takeException e s) := by
  simp [execLwr, h, Res.out, raise]

theorem execSwl_exc (h : ∀ v, writeLanes (effAddr base off s) (leftLanes (effAddr base off s) s) v s = .exc e s) :
    execSwl rt base off s = .next (takeException e s) := by
  simp [execSwl, h, Res.out, raise]

theorem execSwr_exc (h : ∀ v, writeLanes (effAddr base off s) (rightLanes (effAddr base off s) s) v s = .exc e s) :
    execSwr rt base off s = .next (takeException e s) := by
  simp [execSwr, h, Res.out, raise]

/-- R381: SC makes the checks of a store whether or not it stores. -/
theorem execSc_exc (hw : memWrite (effAddr base off s) 4 (s.reg rt) s = .exc e s)
    (hc : checkStore (effAddr base off s) s = .exc e s) : execSc rt base off s = .next (takeException e s) := by
  cases hl : s.llBit <;> simp [execSc, hl, hw, hc, Res.out, raise]

end

/-- Settles O22: the alignment check comes first. -/
theorem misalignedAccess : Obligations.MisalignedAccess := fun s rt base off => by
  refine ⟨fun h => ⟨?lh, ?lhu, ?sh⟩, fun h => ⟨?lw, ?ll, ?sw, ?sc⟩⟩
  case lh | lhu | lw => exact load_exc (memReadPa_misaligned h)
  case ll => exact execLl_exc (memReadPa_misaligned h)
  case sh | sw => exact store_exc (memWrite_misaligned h)
  case sc => exact execSc_exc (memWrite_misaligned h) (checkStore_misaligned h)

/-- Settles O42, one clause of `translate` for each segment. -/
theorem fixedSegments : Obligations.FixedSegments := fun s va k => by
  refine ⟨translate_userError, fun hu hlo hhi => ?kseg0, fun hu hlo hhi => ?kseg1, fun h he => ?kuseg⟩
  case kseg0 =>
    rw [translate_kseg0 hu (inKseg0_iff.2 ⟨hlo, hhi⟩), unmapped_eq 0x80000000 (by decide) hlo (by omega)]
  case kseg1 =>
    have h0 : inKseg0 va = false := by rw [← Bool.not_eq_true, inKseg0_iff]; omega
    rw [translate_kseg1 hu h0 (inKseg1_iff.2 ⟨hlo, hhi⟩), unmapped_eq 0xA0000000 (by decide) hlo (by omega)]
  case kuseg => rw [translate_below h, if_pos he]

end Sys2Proof.Machine
end

section
/-! SUPPORT. Translation through the TLB (20_memory.md R110 to R113): which entry answers, and what its page answers. -/

namespace Sys2Proof.Machine

/-! ### The last element with a property -/

section

variable {α : Type} {p : α → Bool} {l : List α}

theorem foldl_last_none (h : ∀ x ∈ l, p x = false) (found : Option α) :
    l.foldl (fun found x => if p x then some x else found) found = found := by
  induction l generalizing found with
  | nil => rfl
  | cons x xs ih =>
    rw [List.foldl_cons, h x (by simp)]
    exact ih (fun y hy => h y (by simp [hy])) found

theorem foldl_last_some {i : Nat} (hi : i < l.length) (hp : p l[i] = true)
    (hlast : ∀ j (hj : j < l.length), p l[j] = true → j ≤ i) :
    l.foldl (fun found x => if p x then some x else found) none = some l[i] := by
  have later : ∀ x ∈ l.drop (i + 1), p x = false := fun x hx => by
    obtain ⟨j, hj, rfl⟩ := List.mem_iff_getElem.1 hx
    rw [List.length_drop] at hj
    rw [List.getElem_drop, Bool.eq_false_iff]
    intro hpj
    have := hlast _ _ hpj
    omega
  have split : l = l.take i ++ l[i] :: l.drop (i + 1) := by simp
  calc l.foldl (fun found x => if p x then some x else found) none
      = (l.drop (i + 1)).foldl (fun found x => if p x then some x else found) (some l[i]) := by
        conv_lhs => rw [split, List.foldl_append, List.foldl_cons, if_pos hp]
    _ = some l[i] := foldl_last_none later _

end

section

variable {va : Word} {k : Kind} {s : State} {e : TlbEntry} {i : Nat}

/-! ### Which entries match (R110) -/

theorem vpnMask_getLsbD (m : BitVec 12) (hi : i < 19) : (vpnMask m).getLsbD i = !(m.getLsbD i) := by
  unfold vpnMask
  rw [BitVec.getLsbD_not, BitVec.getLsbD_setWidth]
  simp [hi]

theorem vpn2Of_getLsbD (va : Word) (hi : i < 19) : (vpn2Of va).getLsbD i = bit va (13 + i) := by
  unfold vpn2Of bit
  rw [BitVec.getLsbD_extractLsb', decide_eq_true hi, Bool.true_and]

/-- Page numbers agree under a mask when they agree in each bit that the mask leaves to compare. -/
theorem and_vpnMask_eq_iff {m : BitVec 12} {a b : BitVec 19} :
    a &&& vpnMask m = b &&& vpnMask m ↔ ∀ i < 19, m.getLsbD i = false → a.getLsbD i = b.getLsbD i := by
  constructor
  · intro h i hi hm
    have hbit := congrArg (fun x : BitVec 19 => x.getLsbD i) h
    simpa [BitVec.getLsbD_and, vpnMask_getLsbD m hi, hm] using hbit
  · intro h
    apply BitVec.eq_of_getLsbD_eq
    intro i hi
    rw [BitVec.getLsbD_and, BitVec.getLsbD_and, vpnMask_getLsbD m hi]
    cases hm : m.getLsbD i with
    | true => simp
    | false => rw [h i hi hm]

theorem TlbEntry.hits_iff {asid : BitVec 8} : e.hits (vpn2Of va) asid = true ↔
    (∀ b, 13 ≤ b → b < 32 → ¬(b < 25 ∧ e.mask.getLsbD (b - 13) = true) → e.vpn2.getLsbD (b - 13) = bit va b) ∧
      (e.g = true ∨ e.asid = asid) := by
  have masked : (vpn2Of va &&& vpnMask e.mask = e.vpn2 &&& vpnMask e.mask) ↔
      ∀ b, 13 ≤ b → b < 32 → ¬(b < 25 ∧ e.mask.getLsbD (b - 13) = true) → e.vpn2.getLsbD (b - 13) = bit va b := by
    rw [and_vpnMask_eq_iff]
    constructor
    · intro h b hlo hhi hm
      have unmasked : e.mask.getLsbD (b - 13) = false := by
        by_cases h25 : b < 25
        · simpa [h25] using hm
        · exact BitVec.getLsbD_of_ge _ _ (by omega)
      have agree := h (b - 13) (by omega) unmasked
      rw [vpn2Of_getLsbD va (by omega), Nat.add_sub_cancel' hlo] at agree
      exact agree.symm
    · intro h i hi hm
      have agree := h (13 + i) (by omega) (by omega) (by simp [hm])
      rw [Nat.add_sub_cancel_left] at agree
      rw [vpn2Of_getLsbD va hi, agree]
  simp [TlbEntry.hits, masked]

/-- Entry `i` exists and matches the address in the current address space. -/
def State.tlbHit (s : State) (va : Word) (i : Nat) : Prop :=
  i < Params.tlbSize s.params ∧ (s.tlbAt i).hits (vpn2Of va) s.asid = true

theorem tlbEntries_length (s : State) : s.tlbEntries.length = Params.tlbSize s.params := by
  have h := lastIndex_lt s.params
  unfold State.tlbEntries Params.tlbSize
  rw [List.length_take, Vector.length_toList]
  omega

theorem tlbEntries_getElem (hi : i < s.tlbEntries.length) : s.tlbEntries[i] = s.tlbAt i := by
  have h32 : i < 32 := by
    have h := lastIndex_lt s.params
    rw [tlbEntries_length] at hi
    unfold Params.tlbSize at hi
    omega
  have hmod : i % 32 = i := Nat.mod_eq_of_lt h32
  simp only [State.tlbEntries, State.tlbAt, List.getElem_take, Vector.getElem_toList, hmod]

theorem tlbFind_none (h : ∀ i, ¬s.tlbHit va i) : s.tlbFind va = none := by
  refine foldl_last_none (p := fun e : TlbEntry => e.hits (vpn2Of va) s.asid) (fun e he => ?_) none
  obtain ⟨i, hi, rfl⟩ := List.mem_iff_getElem.1 he
  rw [tlbEntries_getElem, Bool.eq_false_iff]
  exact fun hit => h i ⟨tlbEntries_length s ▸ hi, hit⟩

theorem tlbFind_some (h : s.tlbHit va i) (hlast : ∀ j, s.tlbHit va j → j ≤ i) : s.tlbFind va = some (s.tlbAt i) := by
  obtain ⟨hlt, hit⟩ := h
  have hi : i < s.tlbEntries.length := (tlbEntries_length s).symm ▸ hlt
  have found := foldl_last_some (p := fun e : TlbEntry => e.hits (vpn2Of va) s.asid) hi (by rwa [tlbEntries_getElem])
    fun j hj hp => hlast j ⟨tlbEntries_length s ▸ hj, by rwa [tlbEntries_getElem] at hp⟩
  rwa [tlbEntries_getElem] at found

/-! ### What the page answers (R110 to R113) -/

theorem evenOddBit_le (m : BitVec 12) : evenOddBit m ≤ 24 := by
  unfold evenOddBit
  split <;> decide

/-- The frame with its bits below the page size cleared, and the page offset, fit in a word. -/
theorem physical_toNat (pfn : BitVec 20) {eob : Nat} (h : eob ≤ 24) (va : Word) :
    (physical pfn eob va).toNat = pfn.toNat * 4096 / 2 ^ eob * 2 ^ eob + va.toNat % 2 ^ eob := by
  have frame : pfn.toNat * 4096 / 2 ^ eob < 2 ^ (32 - eob) := by
    apply Nat.div_lt_of_lt_mul
    rw [← Nat.pow_add, Nat.add_sub_cancel' (by omega)]
    have := pfn.isLt
    omega
  have offset : va.toNat % 2 ^ eob < 2 ^ eob := Nat.mod_lt _ (Nat.two_pow_pos eob)
  have total : pfn.toNat * 4096 / 2 ^ eob * 2 ^ eob + va.toNat % 2 ^ eob < 2 ^ 32 :=
    calc pfn.toNat * 4096 / 2 ^ eob * 2 ^ eob + va.toNat % 2 ^ eob
        < (pfn.toNat * 4096 / 2 ^ eob + 1) * 2 ^ eob := by rw [Nat.add_mul, Nat.one_mul]; omega
      _ ≤ 2 ^ (32 - eob) * 2 ^ eob := Nat.mul_le_mul_right _ frame
      _ = 2 ^ 32 := by rw [← Nat.pow_add, Nat.sub_add_cancel (by omega)]
  unfold physical
  rw [BitVec.toNat_ofNat]
  exact Nat.mod_eq_of_lt total

theorem tlbLookup_refill (h : s.tlbFind va = none) : tlbLookup va k s = .exc (k.tlbError va true) s := by
  simp [tlbLookup, h]

section

variable (h : s.tlbFind va = some e)

include h

theorem tlbLookup_invalid (hv : (e.page (bit va (evenOddBit e.mask))).v = false) :
    tlbLookup va k s = .exc (k.tlbError va false) s := by
  simp [tlbLookup, h, hv]

theorem tlbLookup_modified (hv : (e.page (bit va (evenOddBit e.mask))).v = true) (hk : k = .store)
    (hd : (e.page (bit va (evenOddBit e.mask))).d = false) : tlbLookup va k s = .exc (.mod va) s := by
  simp [tlbLookup, h, hv, hk, hd]

theorem tlbLookup_page (hv : (e.page (bit va (evenOddBit e.mask))).v = true)
    (hd : k = .store → (e.page (bit va (evenOddBit e.mask))).d = true) :
    tlbLookup va k s = .ok (physical (e.page (bit va (evenOddBit e.mask))).pfn (evenOddBit e.mask) va,
      (e.page (bit va (evenOddBit e.mask))).c) s := by
  simpa [tlbLookup, h, hv] using hd

end

theorem translate_mapped (h : va.toNat < 0x80000000 ∧ s.erl = false ∨ 0xC0000000 ≤ va.toNat ∧ s.userMode = false) :
    translate va k s = tlbLookup va k s := by
  rcases h with ⟨hva, he⟩ | ⟨hva, hu⟩
  · simp [translate_below hva, he]
  · exact translate_above hva hu

end

/-- Settles O43: the accesses take what `translate` answers, and in a mapped segment that is the answer of the last matching
entry. -/
theorem tlbTranslation : Obligations.TlbTranslation := by
  refine ⟨fun s rt base off e hd => ⟨fun ht => ⟨?bytes, fun h => ?half, fun h => ?word⟩,
      fun ht => ⟨?storeBytes, fun h => ?storeHalf, fun h => ?storeWord⟩⟩, by decide, fun s va k hseg => ?mapped⟩
  case bytes =>
    simp only [List.forall_mem_cons, List.not_mem_nil, false_imp_iff, implies_true, and_true]
    have byte : memReadPa (effAddr base off s) 1 s = .exc e s := memReadPa_exc (Nat.mod_one _) hd ht
    exact ⟨load_exc byte, load_exc byte, execLwl_exc (readLanes_exc hd ht), execLwr_exc (readLanes_exc hd ht)⟩
  case half => exact ⟨load_exc (memReadPa_exc h hd ht), load_exc (memReadPa_exc h hd ht)⟩
  case word => exact ⟨load_exc (memReadPa_exc h hd ht), execLl_exc (memReadPa_exc h hd ht)⟩
  case storeBytes =>
    simp only [List.forall_mem_cons, List.not_mem_nil, false_imp_iff, implies_true, and_true]
    exact ⟨store_exc (memWrite_exc (Nat.mod_one _) hd ht), execSwl_exc fun _ => writeLanes_exc hd ht,
      execSwr_exc fun _ => writeLanes_exc hd ht⟩
  case storeHalf => exact store_exc (memWrite_exc h hd ht)
  case storeWord =>
    exact ⟨store_exc (memWrite_exc h hd ht), execSc_exc (memWrite_exc h hd ht) (checkStore_exc h hd ht)⟩
  case mapped =>
    rw [translate_mapped hseg]
    simp only [← TlbEntry.hits_iff]
    refine ⟨fun none => tlbLookup_refill (tlbFind_none none), fun i hi hlast => ?_⟩
    have found : s.tlbFind va = some (s.tlbAt i) := tlbFind_some hi hlast
    exact ⟨tlbLookup_invalid found, tlbLookup_modified found, fun hv hd =>
      ⟨_, tlbLookup_page found hv hd, physical_toNat _ (evenOddBit_le _) va⟩⟩

end Sys2Proof.Machine
end

section
/-! SUPPORT. The bytes of a word (20_memory.md R101) and of a cache line: reading after writing, and a line filled from memory. -/

namespace Sys2Proof.Machine

/-! ### The bytes of a value -/

theorem splitLE_length (n : Nat) (v : Word) : (splitLE n v).length = n := by
  induction n generalizing v with
  | zero => rfl
  | succ n ih => simp [splitLE, ih]

/-- The bytes of a word are its digits to the base 256. -/
theorem bytesNat_splitLE (n : Nat) (v : Word) : bytesNat false (splitLE n v) = v.toNat % 256 ^ n := by
  induction n generalizing v with
  | zero => exact (Nat.mod_one _).symm
  | succ n ih =>
    have low : (v.setWidth 8).toNat = v.toNat % 256 := BitVec.toNat_setWidth 8 v
    have high : (v >>> 8).toNat = v.toNat / 256 := by rw [BitVec.toNat_ushiftRight, Nat.shiftRight_eq_div_pow]
    simp only [splitLE, bytesNat, ih, low, high, Bool.false_eq_true, if_false]
    rw [Nat.pow_succ', Nat.mod_mul]

theorem State.bytes_length (s : State) (n : Nat) (v : Word) : (s.bytes n v).length = n := by
  unfold State.bytes split
  split <;> simp [splitLE_length]

/-- R101: the bytes of a value on the bus are its number in the byte order of the machine. -/
theorem State.bytes_number (s : State) (n : Nat) (v : Word) :
    bytesNat s.params.bigEndian (s.bytes n v) = v.toNat % 256 ^ n := by
  unfold State.bytes split
  cases s.params.bigEndian with
  | false => exact bytesNat_splitLE n v
  | true => rw [bytesNat_big, if_pos rfl, List.reverse_reverse, bytesNat_splitLE]

theorem State.memBytes_getElem (s : State) (k n i : Nat) (h : i < (s.memBytes k n).length) :
    (s.memBytes k n)[i] = s.memByte (k + i) := by
  induction n generalizing k i with
  | zero => exact absurd h (Nat.not_lt_zero i)
  | succ n ih =>
    cases i with
    | zero => rfl
    | succ i =>
      have later := ih (k + 1) i (Nat.lt_of_succ_lt_succ h)
      rw [Nat.add_right_comm] at later
      exact later

theorem State.memBytes_append (s : State) (k m n : Nat) : s.memBytes k (m + n) = s.memBytes k m ++ s.memBytes (k + m) n := by
  induction m generalizing k with
  | zero => simp [State.memBytes]
  | succ m ih => rw [Nat.add_right_comm, State.memBytes, ih, State.memBytes, List.cons_append, Nat.add_assoc, Nat.add_comm 1 m]

/-! ### The bytes of a line -/

/-- Byte `i` of a line. -/
def CacheLine.byteAt (l : CacheLine) (i : Nat) : Byte := l.data[i % 32]'(Nat.mod_lt _ (by decide))

section

variable (l : CacheLine) (o : Nat) (bs : List Byte)

theorem CacheLine.read_one : l.read o 1 = [l.byteAt o] := rfl

theorem CacheLine.read_length (n : Nat) : (l.read o n).length = n := by
  induction n generalizing o with
  | zero => rfl
  | succ n ih => simp [CacheLine.read, ih]

theorem CacheLine.read_getElem (n i : Nat) (h : i < (l.read o n).length) : (l.read o n)[i] = l.byteAt (o + i) := by
  induction n generalizing o i with
  | zero => exact absurd h (Nat.not_lt_zero i)
  | succ n ih =>
    cases i with
    | zero => rfl
    | succ i =>
      have later := ih (o + 1) i (Nat.lt_of_succ_lt_succ h)
      rw [Nat.add_right_comm] at later
      exact later

/-- Writing bytes changes the data of a line alone. -/
theorem CacheLine.write_rest : l.write o bs = { l with data := (l.write o bs).data } := by
  induction bs generalizing l o with
  | nil => rfl
  | cons b bs ih => rw [CacheLine.write, ih]

variable {o bs}

theorem CacheLine.byteAt_write_out {j : Nat} (hj : j < 32) (hend : o + bs.length ≤ 32) (h : j < o ∨ o + bs.length ≤ j) :
    (l.write o bs).byteAt j = l.byteAt j := by
  induction bs generalizing l o with
  | nil => rfl
  | cons b bs ih =>
    rw [List.length_cons] at hend h
    have hne : o % 32 ≠ j % 32 := by omega
    rw [CacheLine.write, ih _ (by omega) (by omega)]
    exact Vector.getElem_set_ne (Nat.mod_lt _ (by decide)) (Nat.mod_lt _ (by decide)) hne

theorem CacheLine.byteAt_write_in {i : Nat} (hend : o + bs.length ≤ 32) (hi : i < bs.length) :
    (l.write o bs).byteAt (o + i) = bs[i] := by
  induction bs generalizing l o i with
  | nil => exact absurd hi (Nat.not_lt_zero i)
  | cons b bs ih =>
    rw [List.length_cons] at hend hi
    rw [CacheLine.write]
    cases i with
    | zero =>
      rw [CacheLine.byteAt_write_out _ (by omega) (by omega) (by omega)]
      exact Vector.getElem_set_self _
    | succ i =>
      have later := ih { l with data := l.data.set (o % 32) b (Nat.mod_lt _ (by decide)) } (o := o + 1) (i := i)
        (by omega) (by omega)
      rw [Nat.add_right_comm] at later
      exact later

/-- The bytes just written are read back. -/
theorem CacheLine.read_write (hend : o + bs.length ≤ 32) : (l.write o bs).read o bs.length = bs := by
  refine List.ext_getElem (CacheLine.read_length _ _ _) fun i _ hi => ?_
  rw [CacheLine.read_getElem, CacheLine.byteAt_write_in l hend hi]

end

/-! ### A line filled from memory (R131) -/

section

variable (s : State) (pa key : Nat)

theorem filledLine_rest (bs : List Byte) :
    filledLine pa bs = { valid := true, tag := tagOf pa, dirty := false, lock := false, data := (filledLine pa bs).data } :=
  CacheLine.write_rest _ 0 bs

theorem filledLine_byteAt {i : Nat} (hi : i < 32) :
    (filledLine pa (s.memBytes key 32)).byteAt i = s.memByte (key + i) := by
  have hlen : (s.memBytes key 32).length = 32 := s.memBytes_length key 32
  have filled := CacheLine.byteAt_write_in { CacheLine.empty with valid := true, tag := tagOf pa } (o := 0)
    (bs := s.memBytes key 32) (i := i) (by omega) (by omega)
  rw [Nat.zero_add, State.memBytes_getElem] at filled
  exact filled

theorem filledLine_read {o n : Nat} (h : o + n ≤ 32) :
    (filledLine pa (s.memBytes key 32)).read o n = s.memBytes (key + o) n := by
  refine List.ext_getElem (by rw [CacheLine.read_length, State.memBytes_length]) fun i hi _ => ?_
  rw [CacheLine.read_length] at hi
  rw [CacheLine.read_getElem, State.memBytes_getElem, filledLine_byteAt s pa key (by omega), Nat.add_assoc]

end

end Sys2Proof.Machine
end

section
/-! SUPPORT. Cached word accesses without an event (20_memory.md R131, R132): a hit reads or updates the line, a miss of a load
fills one. -/

namespace Sys2Proof.Machine

section

variable {s s1 t : State} {va pa : Word} {c : BitVec 3} {key a n : Nat} {l : Lanes} {v : Word} {bs : List Byte}

/-! ### The access goes to the cache -/

theorem uncached_eq_false (h2 : c ≠ 2) (h7 : c ≠ 7) : uncached c = false := by
  rw [uncached, beq_false_of_ne h2, beq_false_of_ne h7, Bool.or_false]

theorem writeThrough_eq_false (h0 : c ≠ 0) (h1 : c ≠ 1) : writeThrough c = false := by
  rw [writeThrough, beq_false_of_ne h0, beq_false_of_ne h1, Bool.or_false]

theorem writeThrough_of_mem : ∀ {c : BitVec 3}, c ∈ [0#3, 1#3] → writeThrough c = true ∧ uncached c = false := by decide

theorem dbAddrMatch_noBreak (h : NoDataBreak s) (k : Kind) : dbAddrMatch k va l s = false := by
  obtain ⟨h0, h2⟩ := h
  simp [dbAddrMatch, breakEnabled, h0, h2]

theorem readLanes_cached (h : PlainAccess .load va pa c s) (hc : uncached c = false)
    (hr : dcacheRead l.n (l.addr pa) s = .ok bs s1) (hd : s1.drseg = s.drseg) :
    readLanes va l s = .ok (s1.value bs, pa) s1 := by
  have noBreak : NoDataBreak s1 := by
    unfold NoDataBreak
    rw [hd]
    exact h.noBreak
  simp [readLanes, h.notDseg, h.prepare, Res.bind, hc, hr, dbAddrMatch_noBreak noBreak]

theorem writeLanes_cached (h : PlainAccess .store va pa c s) (hc : uncached c = false) :
    writeLanes va l v s = dcacheWrite (s.bytes l.n v) (l.addr pa) c s := by
  simp [writeLanes, h.notDseg, h.prepare, Res.bind, hc, h.noDb]

/-- A word at an aligned address takes the four lanes of the word. -/
theorem plainLanes_word (ha : va.toNat % 4 = 0) : plainLanes s va 4 = ⟨0, 4⟩ := by simp [plainLanes, ha]

theorem memRead_cachedWord (ha : va.toNat % 4 = 0) (h : PlainAccess .load va pa c s) (hc : uncached c = false)
    (hr : dcacheRead 4 (pa.toNat / 4 * 4) s = .ok bs s1) (hd : s1.drseg = s.drseg) : memRead va 4 s = .ok (s1.value bs) s1 := by
  simp [memRead, memReadPa, aligned, ha, plainLanes_word ha, readLanes_cached (l := ⟨0, 4⟩) h hc hr hd, Res.bind]

theorem memWrite_cachedWord (ha : va.toNat % 4 = 0) (h : PlainAccess .store va pa c s) (hc : uncached c = false) :
    memWrite va 4 v s = dcacheWrite (s.bytes 4 v) (pa.toNat / 4 * 4) c s := by
  simp [memWrite, aligned, ha, plainLanes_word ha, writeLanes_cached h hc, Lanes.addr]

/-! ### Hits -/

theorem setOf_word (z : CacheSize) (p : Nat) : setOf z (p / 4 * 4) = setOf z p := by
  have line : p / 4 * 4 / 32 = p / 32 := by omega
  rw [setOf, line, setOf]

theorem tagOf_word (p : Nat) : tagOf (p / 4 * 4) = tagOf p := by
  have page : p / 4 * 4 / 1024 = p / 1024 := by omega
  rw [tagOf, page, tagOf]

/-- An address and its word lie in one line. -/
theorem dHit_word (p : Nat) (s : State) : dHit (p / 4 * 4) s = dHit p s := by
  unfold dHit findWay CacheLine.holds
  rw [setOf_word, tagOf_word]

theorem findWay_of_dHit (h : dHit a s = some key) : ∃ w, findWay s.dline (setOf s.params.dcache a) a = some w ∧
    4 * setOf s.params.dcache a + w = key := Option.map_eq_some_iff.1 h

theorem dLookup_hit (hc : cacheable s a = true) (h : dHit a s = some key) : dLookup a s = .ok key s := by
  obtain ⟨w, hw, rfl⟩ := findWay_of_dHit h
  simp [dLookup, cachedAccess, hc, hw]

theorem dLookup_miss (hc : cacheable s a = true) (h : dHit a s = none) : dLookup a s = dRefill a s := by
  have hw : findWay s.dline (setOf s.params.dcache a) a = none := Option.map_eq_none_iff.1 h
  simp [dLookup, cachedAccess, hc, hw]

theorem dcacheRead_hit (hc : cacheable s a = true) (h : dHit a s = some key) :
    dcacheRead n a s = .ok ((s.dline key).read (a % 32) n) s := by
  simp [dcacheRead, dLookup_hit hc h, Res.bind]

/-- R131: a write-back store that hits changes the line alone, which is dirty then. -/
theorem dcacheWrite_back (hw : writeThrough c = false) (hc : cacheable s a = true) (h : dHit a s = some key) :
    dcacheWrite bs a c s = .ok () (updateLine key a bs true s) := by
  simp [dcacheWrite, hw, dLookup_hit hc h, Res.bind]

theorem updateHit_hit (h : dHit a s = some key) : updateHit a bs s = updateLine key a bs false s := by
  obtain ⟨w, hw, rfl⟩ := findWay_of_dHit h
  simp [updateHit, hw]

/-- R132: a write-through store that hits changes the line and enters the write buffer. -/
theorem dcacheWrite_through (hw : writeThrough c = true) (hc : cacheable s a = true) (h : dHit a s = some key)
    (hroom : s.wbuf.length < 16) :
    dcacheWrite bs a c s = .ok () { updateLine key a bs false s with wbuf := s.wbuf ++ [(a, bs)] } := by
  have room : (updateLine key a bs false s).wbuf.length < 16 := hroom
  simp [dcacheWrite, hw, cachedAccess, hc, updateHit_hit h, coreWrite, room, Res.bind]
  rfl

/-! ### What a line holds after a store -/

/-- The line under `key` of `t` is that of `s` with the bytes `bs` from offset `o` on and the dirty flag `d`; no other line
differs. -/
structure LineWritten (key o : Nat) (bs : List Byte) (d : Bool) (s t : State) : Prop where
  bytes : (t.dline key).read o bs.length = bs
  others : ∀ i, i < 32 → i < o ∨ o + bs.length ≤ i → (t.dline key).read i 1 = (s.dline key).read i 1
  valid : (t.dline key).valid = (s.dline key).valid
  tag : (t.dline key).tag = (s.dline key).tag
  lock : (t.dline key).lock = (s.dline key).lock
  dirty : (t.dline key).dirty = ((s.dline key).dirty || d)
  lines : ∀ j, j ≠ key → t.dline j = s.dline j

theorem State.dline_setDline (s : State) (key : Nat) (line : CacheLine) (h : Sparse.wf lineDefault s.dcache = true) (j : Nat) :
    (s.setDline key line).dline j = if j = key then line else s.dline j := by
  split
  next hj => subst hj; exact Sparse.get_set_self lineDefault _ _ _ h
  next hj => exact Sparse.get_set_ne lineDefault _ _ hj

theorem updateLine_written {d : Bool} (ht : t.dcache = (updateLine key a bs d s).dcache)
    (hwf : Sparse.wf lineDefault s.dcache = true) (hend : a % 32 + bs.length ≤ 32) :
    LineWritten key (a % 32) bs d s t := by
  have lines : ∀ j, t.dline j = (updateLine key a bs d s).dline j := fun j => by rw [State.dline, ht]; rfl
  have line : t.dline key =
      { (s.dline key).write (a % 32) bs with dirty := ((s.dline key).write (a % 32) bs).dirty || d } :=
    (lines key).trans ((s.dline_setDline key _ hwf key).trans (if_pos rfl))
  have rest := (s.dline key).write_rest (a % 32) bs
  have data : ∀ i, (t.dline key).byteAt i = ((s.dline key).write (a % 32) bs).byteAt i := fun i => by rw [line]; rfl
  constructor
  case bytes =>
    refine Eq.trans ?_ ((s.dline key).read_write hend)
    exact List.ext_getElem (by simp only [CacheLine.read_length]) fun i _ _ => by
      rw [CacheLine.read_getElem, CacheLine.read_getElem, data]
  case others =>
    intro i hi hout
    rw [CacheLine.read_one, CacheLine.read_one, data, CacheLine.byteAt_write_out _ hi hend hout]
  case valid => rw [line, rest]
  case tag => rw [line, rest]
  case lock => rw [line, rest]
  case dirty => rw [line, rest]
  case lines => exact fun j hj => (lines j).trans ((s.dline_setDline key _ hwf j).trans (if_neg hj))

/-- A word is written at its own offset in the line. -/
theorem updateLine_writtenWord {p : Nat} {d : Bool} (ht : t.dcache = (updateLine key (p / 4 * 4) (s.bytes 4 v) d s).dcache)
    (hwf : Sparse.wf lineDefault s.dcache = true) : LineWritten key (p % 32 / 4 * 4) (s.bytes 4 v) d s t := by
  have offset : p / 4 * 4 % 32 = p % 32 / 4 * 4 := by omega
  have fits : p / 4 * 4 % 32 + (s.bytes 4 v).length ≤ 32 := by rw [State.bytes_length]; omega
  exact offset ▸ updateLine_written ht hwf fits

/-- A cached store of the word `v` has completed: the line under `key` holds it at offset `o`, the write buffer is `l`, and
nothing else changed. -/
structure WordStored (key o : Nat) (v : Word) (d : Bool) (l : List (Nat × List Byte)) (s t : State) : Prop where
  line : LineWritten key o (s.bytes 4 v) d s t
  advanced : Advanced s t
  rest : t = { s with dcache := t.dcache, wbuf := l, pc := t.pc, pending := t.pending, inDelaySlot := t.inDelaySlot }

theorem WordStored.retired {p : Nat} {d : Bool} {l : List (Nat × List Byte)} (hwf : Sparse.wf lineDefault s.dcache = true) :
    WordStored key (p % 32 / 4 * 4) v d l s
      ({ updateLine key (p / 4 * 4) (s.bytes 4 v) d s with wbuf := l } : State).retire :=
  ⟨updateLine_writtenWord rfl hwf, ⟨rfl, rfl, rfl⟩, rfl⟩

theorem WordStored.wbuf {o : Nat} {d : Bool} {l : List (Nat × List Byte)} (h : WordStored key o v d l s t) : t.wbuf = l :=
  (congrArg State.wbuf h.rest :)

/-- R101: a word on the bus is its own number. -/
theorem State.bytes_word (s : State) (v : Word) : bytesNat s.params.bigEndian (s.bytes 4 v) = v.toNat :=
  (s.bytes_number 4 v).trans (Nat.mod_eq_of_lt v.isLt)

/-! ### Misses -/

/-- R130: the victim is an invalid way, or every way is valid. -/
theorem victimWay_spec (line : Nat → CacheLine) (set : Nat) (free : Word) :
    victimWay line set free < 4 ∧ ((line (4 * set + victimWay line set free)).valid = false ∨
      ∀ j, j < 4 → (line (4 * set + j)).valid = true) := by
  unfold victimWay
  dsimp only
  split
  next hnone =>
    refine ⟨Nat.mod_lt _ (by decide), .inr fun j hj => ?_⟩
    have mem : j ∈ [0, 1, 2, 3] := by simp; omega
    simpa using List.filter_eq_nil_iff.1 hnone j mem
  next hsome =>
    have pos := List.length_pos_iff.2 hsome
    have hlt := Nat.mod_lt free.toNat pos
    rw [List.getElem?_eq_getElem hlt, Option.getD_some]
    obtain ⟨hmem, hinv⟩ := List.mem_filter.1 (List.getElem_mem hlt)
    exact ⟨by simp at hmem; omega, .inl (by simpa using hinv)⟩

/-- A run of words that memory cells answer is the run of their bytes. -/
theorem transferWords_cells {p kind} (k : Nat) (ha : s.between = [])
    (hb : ∀ i, i < k → BackedBy s (p + 4 * i) (key + 4 * i) kind) :
    transferWords p k s = .ok (s.memBytes key (4 * k)) s := by
  induction k generalizing p key with
  | zero => rfl
  | succ k ih =>
    have first : busRead 4 p s = .ok (s.memBytes key 4) s := by
      have cell : route s p = .cell key kind := hb 0 (Nat.succ_pos k)
      rw [busRead, readRoute_cell cell]
    have rest := ih (p := p + 4) (key := key + 4) fun i hi => by
      have cell := hb (i + 1) (Nat.succ_lt_succ hi)
      rwa [Nat.mul_succ, Nat.add_comm (4 * i) 4, ← Nat.add_assoc, ← Nat.add_assoc] at cell
    rw [transferWords, transferRead_alone ha, first, Res.bind, rest, Res.bind, ← State.memBytes_append, Nat.mul_succ,
      Nat.add_comm 4]

/-- Free values do not decide what answers an address. -/
theorem BackedBy.drawn {p kind} (h : BackedBy s p key kind) : BackedBy (s.drawn 1) p key kind := h

/-- R131: the way that a refill takes is filled with the line from memory. -/
theorem dRefill_clean {kind} (hw : s.wbuf = []) (ha : s.between = [])
    {way : Nat} (hway : way = 4 * setOf s.params.dcache a + victimWay s.dline (setOf s.params.dcache a) s.draw)
    (hclean : ¬((s.dline way).valid = true ∧ (s.dline way).dirty = true))
    (hb : ∀ i, i < 8 → BackedBy s (a / 32 * 32 + 4 * i) (key + 4 * i) kind) :
    dRefill a s = .ok way ((s.drawn 1).setDline way (filledLine a (s.memBytes key 32))) := by
  subst hway
  have line : coreReadWords (a / 32 * 32) 8 (s.drawn 1) = .ok (s.memBytes key 32) (s.drawn 1) := by
    have words := transferWords_cells (s := s.drawn 1) (p := a / 32 * 32) (key := key) 8 ha fun i hi => (hb i hi).drawn
    rw [coreReadWords, drainAll_nil (s := s.drawn 1) hw]
    exact words
  have clean : ((s.dline (4 * setOf s.params.dcache a + victimWay s.dline (setOf s.params.dcache a) s.draw)).valid &&
      (s.dline (4 * setOf s.params.dcache a + victimWay s.dline (setOf s.params.dcache a) s.draw)).dirty) = false := by
    rwa [← Bool.not_eq_true, Bool.and_eq_true]
  simp [dRefill, writeBackDirty, clean, Res.bind, line]

theorem dcacheRead_miss {kind} (hc : cacheable s a = true) (miss : dHit a s = none) (hw : s.wbuf = []) (ha : s.between = [])
    (hwf : Sparse.wf lineDefault s.dcache = true)
    {way : Nat} (hway : way = 4 * setOf s.params.dcache a + victimWay s.dline (setOf s.params.dcache a) s.draw)
    (hclean : ¬((s.dline way).valid = true ∧ (s.dline way).dirty = true))
    (hb : ∀ i, i < 8 → BackedBy s (a / 32 * 32 + 4 * i) (key + 4 * i) kind) (hend : a % 32 + n ≤ 32) :
    dcacheRead n a s =
      .ok (s.memBytes (key + a % 32) n) ((s.drawn 1).setDline way (filledLine a (s.memBytes key 32))) := by
  have line : ((s.drawn 1).setDline way (filledLine a (s.memBytes key 32))).dline way = filledLine a (s.memBytes key 32) :=
    ((s.drawn 1).dline_setDline way _ hwf way).trans (if_pos rfl)
  simp only [dcacheRead, dLookup_miss hc miss, dRefill_clean hw ha hway hclean hb, Res.bind, line, filledLine_read s a key hend]

/-! ### The instructions -/

variable {rt base : Reg} {off : Imm16}

theorem execLw_next (h : memRead (effAddr base off s) 4 s = .ok v s1) :
    Next (exec (.lw rt base off) s) (Wrote rt v s1) := by
  have run : exec (.lw rt base off) s = writeResult rt v s1 := by
    show load rt base off 4 id s = _
    rw [load, h, Res.out, id]
  rw [run]
  exact writeResult_next rt v s1

theorem execSw_eq (h : memWrite (effAddr base off s) 4 (s.reg rt) s = .ok () s1) :
    exec (.sw rt base off) s = .next s1.retire := by
  show store rt base off 4 s = _
  rw [store, h, Res.out, done]

section

variable (ha : (effAddr base off s).toNat % 4 = 0) (hcache : cacheable s (pa.toNat / 4 * 4) = true)

include ha hcache

theorem execLw_hit (plain : PlainAccess .load (effAddr base off s) pa c s) (hc : uncached c = false)
    (hit : dHit pa.toNat s = some key) :
    Next (exec (.lw rt base off) s) (Wrote rt (s.value ((s.dline key).read (pa.toNat % 32 / 4 * 4) 4)) s) := by
  have offset : pa.toNat / 4 * 4 % 32 = pa.toNat % 32 / 4 * 4 := by omega
  have read := dcacheRead_hit (n := 4) hcache ((dHit_word _ s).trans hit)
  rw [offset] at read
  exact execLw_next (memRead_cachedWord ha plain hc read rfl)

theorem execSw_back (plain : PlainAccess .store (effAddr base off s) pa c s) (hc : uncached c = false)
    (hb : writeThrough c = false) (hwf : Sparse.wf lineDefault s.dcache = true) (hit : dHit pa.toNat s = some key) :
    Next (exec (.sw rt base off) s) (WordStored key (pa.toNat % 32 / 4 * 4) (s.reg rt) true s.wbuf s) :=
  ⟨_, execSw_eq ((memWrite_cachedWord ha plain hc).trans (dcacheWrite_back hb hcache ((dHit_word _ s).trans hit))),
    WordStored.retired hwf⟩

theorem execSw_through (plain : PlainAccess .store (effAddr base off s) pa c s) (hc : uncached c = false)
    (ht : writeThrough c = true) (hwf : Sparse.wf lineDefault s.dcache = true) (hit : dHit pa.toNat s = some key)
    (room : s.wbuf.length < 16) :
    Next (exec (.sw rt base off) s) (WordStored key (pa.toNat % 32 / 4 * 4) (s.reg rt) false
      (s.wbuf ++ [(pa.toNat / 4 * 4, s.bytes 4 (s.reg rt))]) s) :=
  ⟨_, execSw_eq ((memWrite_cachedWord ha plain hc).trans (dcacheWrite_through ht hcache ((dHit_word _ s).trans hit) room)),
    WordStored.retired hwf⟩

theorem execLw_miss {kind} (plain : PlainAccess .load (effAddr base off s) pa c s) (hc : uncached c = false)
    (hwf : Sparse.wf lineDefault s.dcache = true) (miss : dHit pa.toNat s = none) (hw : s.wbuf = []) (hb : s.between = [])
    {way : Nat} (hway : way = 4 * setOf s.params.dcache pa.toNat + victimWay s.dline (setOf s.params.dcache pa.toNat) s.draw)
    (hclean : ¬((s.dline way).valid = true ∧ (s.dline way).dirty = true))
    (cells : ∀ i, i < 8 → BackedBy s (pa.toNat / 32 * 32 + 4 * i) (key + 4 * i) kind) :
    Next (exec (.lw rt base off) s) fun t =>
      Wrote rt (s.value (s.memBytes (key + pa.toNat % 32 / 4 * 4) 4)) { s with dcache := t.dcache, free := s.free + 1 } t ∧
      ∀ j, t.dline j = if j = way then filledLine (pa.toNat / 4 * 4) (s.memBytes key 32) else s.dline j := by
  have offset : pa.toNat / 4 * 4 % 32 = pa.toNat % 32 / 4 * 4 := by omega
  have sameLine : pa.toNat / 4 * 4 / 32 * 32 = pa.toNat / 32 * 32 := by omega
  have read := dcacheRead_miss (n := 4) hcache ((dHit_word _ s).trans miss) hw hb hwf
    (hway.trans (by rw [setOf_word])) hclean (sameLine.symm ▸ cells) (by omega)
  rw [offset] at read
  refine (execLw_next (memRead_cachedWord ha plain hc read rfl)).mono fun t wrote => ?_
  have dcache : t.dcache = ((s.drawn 1).setDline way (filledLine (pa.toNat / 4 * 4) (s.memBytes key 32))).dcache :=
    (congrArg State.dcache wrote.rest :)
  refine ⟨by rw [dcache]; exact wrote, fun j => ?_⟩
  rw [State.dline, dcache]
  exact (s.drawn 1).dline_setDline way _ hwf j

end

end

/-- Settles O21: a hit works on the line that `dHit` names, a miss on the line that the refill has made. -/
theorem cachedAccesses : Obligations.CachedAccesses := by
  intro s rt base off pa c ea o ha hcache
  refine ⟨fun key hit => ⟨fun plain h2 h7 => ?loadHit, fun plain hwf => ?storeHit⟩,
    fun miss plain h2 h7 hwf hw hb => ?loadMiss⟩
  case loadHit =>
    exact ⟨_, execLw_hit ha hcache plain (uncached_eq_false h2 h7) hit, s.value_toNat _ (CacheLine.read_length _ _ _).le⟩
  case storeHit =>
    intro written
    have hlen := s.bytes_length 4 (s.reg rt)
    have stored : ∀ {d l t}, WordStored key o (s.reg rt) d l s t → written t := fun {d l t} h => by
      have bytes := h.line.bytes
      have others := h.line.others
      rw [hlen] at bytes others
      refine ⟨by rw [bytes, s.bytes_word], others, h.line.valid, h.line.tag, h.line.lock, h.line.lines, h.advanced, ?_⟩
      rw [h.wbuf]
      exact h.rest
    refine ⟨fun hc => ?writeBack, fun hc _ room => ?writeThrough⟩
    case writeBack =>
      simp only [List.mem_cons, List.not_mem_nil, or_false, not_or] at hc
      obtain ⟨h0, h1, h2, h7⟩ := hc
      have back := execSw_back (rt := rt) ha hcache plain (uncached_eq_false h2 h7) (writeThrough_eq_false h0 h1) hwf hit
      exact back.mono fun t h => ⟨stored h, h.line.dirty.trans (Bool.or_true _), h.wbuf⟩
    case writeThrough =>
      obtain ⟨through, cached⟩ := writeThrough_of_mem hc
      have buffered := execSw_through (rt := rt) ha hcache plain cached through hwf hit room
      exact buffered.mono fun t h =>
        ⟨stored h, h.line.dirty.trans (Bool.or_false _), _, hlen, s.bytes_word (s.reg rt), h.wbuf⟩
  case loadMiss =>
    intro way
    obtain ⟨hlt, hvictim⟩ := victimWay_spec s.dline (setOf s.params.dcache pa.toNat) s.draw
    refine ⟨_, hlt, hvictim, fun key kind hclean cells => ⟨_, s.value_memBytes_toNat (key + o) 4 le_rfl, ?_⟩⟩
    generalize hway : way (victimWay s.dline (setOf s.params.dcache pa.toNat) s.draw) = w at hclean ⊢
    have filled := execLw_miss (rt := rt) ha hcache plain (uncached_eq_false h2 h7) hwf miss hw hb hway.symm hclean cells
    refine filled.mono fun t ⟨wrote, lines⟩ => ?_
    have line := (lines w).trans (if_pos rfl)
    have bytes : ∀ i, i < 32 → (t.dline w).read i 1 = [s.memByte (key + i)] := fun i hi => by
      rw [line, CacheLine.read_one, filledLine_byteAt s _ key hi]
    rw [filledLine_rest] at line
    exact ⟨wrote, bytes, by rw [line], by rw [line], by rw [line], by rw [line]; exact tagOf_word pa.toNat,
      fun j hj => (lines j).trans (if_neg hj)⟩

end Sys2Proof.Machine
end

section
/-! Decoder and encoder (30_encoding.md R160 to R177): a word of a format is its fields, the decoder reads only fields, so each
undoes the other; and what a word of no instruction does. -/

namespace Sys2Proof.Laws

variable {w : Word}

/-! ### The fields of a word of each format (R161) -/

theorem rType_eq_iff {op : BitVec 6} {rs rt rd sa : BitVec 5} {fn : BitVec 6} : rType op rs rt rd sa fn = w ↔
    fOp w = op ∧ fRs w = rs ∧ fRt w = rt ∧ fRd w = rd ∧ fSa w = sa ∧ fFn w = fn := by
  simp only [← BitVec.toNat_inj, rType_toNat, fOp, fRs, fRt, fRd, fSa, fFn, BitVec.extractLsb'_toNat,
    Nat.shiftRight_eq_div_pow]
  omega

theorem iType_eq_iff {op : BitVec 6} {rs rt : BitVec 5} {imm : Imm16} : iType op rs rt imm = w ↔
    fOp w = op ∧ fRs w = rs ∧ fRt w = rt ∧ fImm w = imm := by
  simp only [← BitVec.toNat_inj, iType_toNat, fOp, fRs, fRt, fImm, BitVec.extractLsb'_toNat, Nat.shiftRight_eq_div_pow]
  omega

theorem jType_eq_iff {op : BitVec 6} {index : BitVec 26} : jType op index = w ↔ fOp w = op ∧ fIndex w = index := by
  simp only [← BitVec.toNat_inj, jType_toNat, fOp, fIndex, BitVec.extractLsb'_toNat, Nat.shiftRight_eq_div_pow]
  omega

theorem tType_eq_iff {rs rt : BitVec 5} {code : BitVec 10} {fn : BitVec 6} : tType rs rt code fn = w ↔
    fOp w = 0#6 ∧ fRs w = rs ∧ fRt w = rt ∧ fCode10 w = code ∧ fFn w = fn := by
  simp only [← BitVec.toNat_inj, tType_toNat, fOp, fRs, fRt, fCode10, fFn, BitVec.extractLsb'_toNat,
    Nat.shiftRight_eq_div_pow, BitVec.toNat_ofNat]
  omega

theorem cType_eq_iff {op : BitVec 6} {code : BitVec 20} {fn : BitVec 6} : cType op code fn = w ↔
    fOp w = op ∧ fCode20 w = code ∧ fFn w = fn := by
  simp only [← BitVec.toNat_inj, cType_toNat, fOp, fCode20, fFn, BitVec.extractLsb'_toNat, Nat.shiftRight_eq_div_pow]
  omega

theorem wType_eq_iff {code : BitVec 19} {fn : BitVec 6} : wType code fn = w ↔
    fOp w = 0x10#6 ∧ w.getLsbD 25 = true ∧ fCode19 w = code ∧ fFn w = fn := by
  simp only [← BitVec.toNat_inj, wType_toNat, fOp, fCode19, fFn, BitVec.extractLsb'_toNat, Nat.shiftRight_eq_div_pow,
    BitVec.getLsbD, Nat.testBit_eq_decide_div_mod_eq, decide_eq_true_eq, BitVec.toNat_ofNat]
  omega

theorem mType_eq_iff {rs rt rd : BitVec 5} {sel : BitVec 3} : mType rs rt rd sel = w ↔
    fOp w = 0x10#6 ∧ fRs w = rs ∧ fRt w = rt ∧ fRd w = rd ∧ fMid8 w = 0#8 ∧ fSel w = sel := by
  simp only [← BitVec.toNat_inj, mType_toNat, fOp, fRs, fRt, fRd, fMid8, fSel, BitVec.extractLsb'_toNat,
    Nat.shiftRight_eq_div_pow, BitVec.toNat_ofNat]
  omega

/-- The bit that parts the CO words from the other COP0 words is the top bit of rs. -/
theorem getLsbD_25 (w : Word) : w.getLsbD 25 = (fRs w).getLsbD 4 := by simp [fRs]

/-! ### The opcodes with a decoder of their own (R165) -/

theorem decode_special (h : fOp w = 0x00#6) : decode w = decodeSpecial w := by rw [decode, h]; rfl
theorem decode_regimm (h : fOp w = 0x01#6) : decode w = decodeRegimm w := by rw [decode, h]; rfl
theorem decode_cop0 (h : fOp w = 0x10#6) : decode w = decodeCop0 w := by rw [decode, h]; rfl
theorem decode_special2 (h : fOp w = 0x1C#6) : decode w = decodeSpecial2 w := by rw [decode, h]; rfl
theorem decode_special3 (h : fOp w = 0x1F#6) : decode w = decodeSpecial3 w := by rw [decode, h]; rfl

/-! ### Decoding an encoding -/

/-- With the fields of `encode i` at hand, the decoder computes. JR and JALR alone need their well-formedness: the decoder
refuses the hints of R176. -/
theorem decode_encode (i : Instr) (hwf : i.wellFormed = true) : decode (encode i) = some i := by
  generalize hw : encode i = w
  cases i with
  | jr rs hint =>
    obtain ⟨hop, hrs, hrt, hrd, hsa, hfn⟩ := rType_eq_iff.1 hw
    have hhint : hint = 0#5 ∨ hint = 16#5 := by simpa [Instr.wellFormed] using hwf
    rw [decode_special hop, decodeSpecial, hrs, hrt, hrd, hsa, hfn]
    rcases hhint with rfl | rfl <;> rfl
  | jalr rd rs hint =>
    obtain ⟨hop, hrs, hrt, hrd, hsa, hfn⟩ := rType_eq_iff.1 hw
    have hhint : (hint = 0#5 ∨ hint = 16#5) ∧ rd ≠ rs := by simpa [Instr.wellFormed] using hwf
    rw [decode_special hop, decodeSpecial, hrs, hrt, hrd, hsa, hfn]
    rcases hhint with ⟨rfl | rfl, _⟩ <;> rfl
  | sll | srl | sra | sllv | srlv | srav | rotr | rotrv | movz | movn | sync | mfhi | mthi | mflo | mtlo | mult | multu | div
    | divu | add | addu | sub | subu | and | or | xor | nor | slt | sltu =>
    obtain ⟨hop, hrs, hrt, hrd, hsa, hfn⟩ := rType_eq_iff.1 hw
    rw [decode_special hop, decodeSpecial, hrs, hrt, hrd, hsa, hfn]
    rfl
  | tge | tgeu | tlt | tltu | teq | tne =>
    obtain ⟨hop, hrs, hrt, hcode, hfn⟩ := tType_eq_iff.1 hw
    rw [decode_special hop, decodeSpecial, hrs, hrt, hcode, hfn]
    rfl
  | syscall | brk | movci =>
    obtain ⟨hop, hcode, hfn⟩ := cType_eq_iff.1 hw
    rw [decode_special hop, decodeSpecial, hcode, hfn]
    rfl
  | bltz | bgez | bltzl | bgezl | bltzal | bgezal | bltzall | bgezall | tgei | tgeiu | tlti | tltiu | teqi | tnei | synci =>
    obtain ⟨hop, hrs, hrt, himm⟩ := iType_eq_iff.1 hw
    rw [decode_regimm hop, decodeRegimm, hrs, hrt, himm]
    rfl
  | madd | maddu | msub | msubu | mul | clz | clo =>
    obtain ⟨hop, hrs, hrt, hrd, hsa, hfn⟩ := rType_eq_iff.1 hw
    rw [decode_special2 hop, decodeSpecial2, hrs, hrt, hrd, hsa, hfn]
    rfl
  | sdbbp =>
    obtain ⟨hop, hcode, hfn⟩ := cType_eq_iff.1 hw
    rw [decode_special2 hop, decodeSpecial2, hcode, hfn]
    rfl
  | ext | ins | seb | seh | wsbh | rdhwr =>
    obtain ⟨hop, hrs, hrt, hrd, hsa, hfn⟩ := rType_eq_iff.1 hw
    rw [decode_special3 hop, decodeSpecial3, hrs, hrt, hrd, hsa, hfn]
    rfl
  | mfc0 | mtc0 =>
    obtain ⟨hop, hrs, hrt, hrd, hmid, hsel⟩ := mType_eq_iff.1 hw
    rw [decode_cop0 hop, decodeCop0, getLsbD_25, hrs, hrt, hrd, hmid, hsel]
    rfl
  | rdpgpr | wrpgpr | di | ei =>
    obtain ⟨hop, hrs, hrt, hrd, hsa, hfn⟩ := rType_eq_iff.1 hw
    rw [decode_cop0 hop, decodeCop0, getLsbD_25, hrs, hrt, hrd, hsa, hfn]
    rfl
  | tlbr | tlbwi | tlbwr | tlbp | eret | deret | wait =>
    obtain ⟨hop, hco, hcode, hfn⟩ := wType_eq_iff.1 hw
    rw [decode_cop0 hop, decodeCop0, hco, decodeCO, hcode, hfn]
    rfl
  | j | jal | cop1 | cop2 | cop1x | lwc1 | lwc2 | ldc1 | ldc2 | swc1 | swc2 | sdc1 | sdc2 =>
    obtain ⟨hop, hindex⟩ := jType_eq_iff.1 hw
    rw [decode, hop, hindex]
    rfl
  | beq | bne | blez | bgtz | beql | bnel | blezl | bgtzl | addi | addiu | slti | sltiu | andi | ori | xori | lui | lb | lbu
    | lh | lhu | lw | lwl | lwr | ll | sb | sh | sw | swl | swr | sc | pref | cache =>
    obtain ⟨hop, hrs, hrt, himm⟩ := iType_eq_iff.1 hw
    rw [decode, hop, hrs, hrt, himm]
    rfl

/-- Settles O47: the decoder reads back the fields that the format has put into the word. -/
theorem decodeEncode : Obligations.DecodeEncode := decode_encode

/-! ### Encoding what was decoded

A branch of a decoder tests the fields that the encoding of its answer fixes, and copies the others: by the equations of the
formats that is all an encoding is. The decoders match on the number of a field (6 or 5 bits wide), so this field is compared as
a number. -/

/-- What a decoder answers for the word `w`, if anything, has `w` as its encoding. -/
def Reads (w : Word) (o : Option Instr) : Prop := ∀ i, o = some i → encode i = w

@[simp] theorem reads_none : Reads w none := nofun
@[simp] theorem reads_some {i : Instr} : Reads w (some i) ↔ encode i = w := by simp [Reads]

@[simp] theorem reads_ite {c : Prop} [Decidable c] {o p : Option Instr} :
    Reads w (if c then o else p) ↔ (c → Reads w o) ∧ (¬c → Reads w p) := by
  split <;> simp [*]

@[simp] theorem reads_when {c : Bool} {i : Instr} : Reads w (when c i) ↔ (c = true → encode i = w) := by
  simp [when]

theorem reads_decodeSpecial (hop : fOp w = 0x00#6) : Reads w (decodeSpecial w) := by
  unfold decodeSpecial
  split <;> simp +contextual [encode, rType_eq_iff, tType_eq_iff, cType_eq_iff, ← BitVec.toNat_inj (n := 6), *]

theorem reads_decodeRegimm (hop : fOp w = 0x01#6) : Reads w (decodeRegimm w) := by
  unfold decodeRegimm
  split <;> simp [encode, iType_eq_iff, ← BitVec.toNat_inj (n := 5), *]

theorem reads_decodeSpecial2 (hop : fOp w = 0x1C#6) : Reads w (decodeSpecial2 w) := by
  unfold decodeSpecial2
  split <;> simp +contextual [encode, rType_eq_iff, cType_eq_iff, ← BitVec.toNat_inj (n := 6), *]

theorem reads_decodeSpecial3 (hop : fOp w = 0x1F#6) : Reads w (decodeSpecial3 w) := by
  unfold decodeSpecial3
  split
  case h_3 => split <;> simp +contextual [encode, rType_eq_iff, ← BitVec.toNat_inj (n := 5), ← BitVec.toNat_inj (n := 6), *]
  all_goals simp +contextual [encode, rType_eq_iff, ← BitVec.toNat_inj (n := 6), *]

theorem reads_decodeCO (hop : fOp w = 0x10#6) (hco : w.getLsbD 25 = true) : Reads w (decodeCO w) := by
  unfold decodeCO
  split <;> simp +contextual [encode, wType_eq_iff, ← BitVec.toNat_inj (n := 6), *]

theorem reads_decodeCop0 (hop : fOp w = 0x10#6) : Reads w (decodeCop0 w) := by
  unfold decodeCop0
  refine reads_ite.2 ⟨reads_decodeCO hop, fun _ => ?_⟩
  split <;> simp +contextual [encode, rType_eq_iff, mType_eq_iff, ← BitVec.toNat_inj (n := 5), *]

/-- Opcodes with a decoder of their own by the lemma about it; the others are I-type and J-type words. -/
theorem reads_decode : Reads w (decode w) := by
  unfold decode
  split
  case h_1 hop => exact reads_decodeSpecial (BitVec.eq_of_toNat_eq hop)
  case h_2 hop => exact reads_decodeRegimm (BitVec.eq_of_toNat_eq hop)
  case h_17 hop => exact reads_decodeCop0 (BitVec.eq_of_toNat_eq hop)
  case h_25 hop => exact reads_decodeSpecial2 (BitVec.eq_of_toNat_eq hop)
  case h_26 hop => exact reads_decodeSpecial3 (BitVec.eq_of_toNat_eq hop)
  all_goals simp +contextual [encode, iType_eq_iff, jType_eq_iff, ← BitVec.toNat_inj (n := 6), *]

/-- Settles O48: every decoder reads the whole word. -/
theorem encodeDecode : Obligations.EncodeDecode := fun _ => reads_decode

end Sys2Proof.Laws

namespace Sys2Proof.Machine

/-! ### Words of no instruction (R173, R174, R451) -/

theorem runWord_reserved {s : State} {w : Word} (h : decode w = none) : runWord w s = reservedWord w s := by
  rw [runWord, h]

theorem reservedWord_eq (w : Word) (s : State) : reservedWord w s =
    .next (takeException (if fOp w = 0x10#6 ∧ s.cp0Usable = false then .cpu 0 else .ri) s) := by
  unfold reservedWord privileged raise
  by_cases hop : fOp w = 0x10#6 <;> cases s.cp0Usable <;> simp [hop]

/-- Settles O49: the word goes to `reservedWord`, and there only a COP0 word asks for coprocessor 0. -/
theorem reservedWords : Obligations.ReservedWords := fun s w h => (runWord_reserved h).trans (reservedWord_eq w s)

end Sys2Proof.Machine
end

section
/-! SUPPORT. What arithmetic, logic, comparison, count, byte and bit-field instructions compute (40_alu.md): each operator of the
model read as a number or bit by bit. Each of these instructions completes with a `writeResult` or a `done`, whose frames are
`writeResult_next` and `done_next`; ADD, SUB and ADDI may raise Ov instead. -/

namespace Sys2Proof.Machine

/-! ### Operands and sums as numbers (R12, R201 to R206) -/

theorem sext16_toInt (imm : Imm16) : (sext16 imm).toInt = imm.toInt := BitVec.toInt_signExtend_of_le (by decide)

section

variable (a b : Word)

/-- A signed operand counts modulo 2^32 as its unsigned number. -/
theorem add_toNat_signed : ((a + b).toNat : Int) = (a.toNat + b.toInt) % 2 ^ 32 := by
  rw [BitVec.toNat_add, BitVec.toInt_eq_toNat_cond]
  omega

theorem sub_toNat : ((a - b).toNat : Int) = (a.toNat - b.toNat : Int) % 2 ^ 32 := by
  rw [BitVec.toNat_sub]
  omega

/-- 33 bits hold the sum of two 32-bit signed numbers. -/
theorem sum33_toInt : (sum33 a b).toInt = a.toInt + b.toInt := by
  rw [sum33, BitVec.toInt_add, BitVec.toInt_signExtend_of_le (by decide), BitVec.toInt_signExtend_of_le (by decide)]
  have ha := a.toInt_eq_toNat_cond
  have hb := b.toInt_eq_toNat_cond
  exact Int.bmod_eq_of_le (by omega) (by omega)

/-- 33 bits hold the difference of two 32-bit signed numbers. -/
theorem diff33_toInt : (diff33 a b).toInt = a.toInt - b.toInt := by
  rw [diff33, BitVec.toInt_sub, BitVec.toInt_signExtend_of_le (by decide), BitVec.toInt_signExtend_of_le (by decide)]
  have ha := a.toInt_eq_toNat_cond
  have hb := b.toInt_eq_toNat_cond
  exact Int.bmod_eq_of_le (by omega) (by omega)

end

/-! ### Overflow (R201) -/

section

variable {t : BitVec 33}

/-- The bits 32 and 31 of a 33-bit number are equal exactly when 32 signed bits hold it. -/
theorem overflow33_eq_false_iff : overflow33 t = false ↔ -2 ^ 31 ≤ t.toInt ∧ t.toInt < 2 ^ 31 := by
  have ht : t.toNat < 2 ^ 33 := t.isLt
  rw [overflow33, bne_eq_false_iff_eq, Bool.eq_iff_iff, BitVec.toInt_eq_toNat_cond]
  simp only [BitVec.getLsbD, Nat.testBit_eq_decide_div_mod_eq, decide_eq_true_eq]
  omega

/-- A 33-bit number that 32 signed bits hold is its low word. -/
theorem setWidth_toInt_of_fits (hlo : -2 ^ 31 ≤ t.toInt) (hhi : t.toInt < 2 ^ 31) : (t.setWidth 32).toInt = t.toInt := by
  have ht := t.toInt_eq_toNat_cond
  rw [BitVec.toInt_eq_toNat_cond, BitVec.toNat_setWidth]
  omega

theorem writeChecked_fits {rd : Reg} {s : State} (h : overflow33 t = false) :
    writeChecked rd t s = writeResult rd (t.setWidth 32) s := by simp [writeChecked, h]

theorem writeChecked_overflows {rd : Reg} {s : State} (h : overflow33 t = true) :
    writeChecked rd t s = .next (takeException .ov s) := by simp [writeChecked, h, raise]

/-- An instruction that answers through `writeChecked` with the exact result `x` in 33 bits. -/
theorem checkedResult_of_exec {i : Instr} {rd : Reg} {x : Int} {s : State} (hi : exec i s = writeChecked rd t s)
    (hx : t.toInt = x) : CheckedResult i rd x s := by
  subst hx
  unfold CheckedResult
  rw [hi]
  split
  case isTrue hfits =>
    rw [writeChecked_fits (overflow33_eq_false_iff.2 hfits)]
    exact ⟨_, writeResult_next rd _ s, setWidth_toInt_of_fits hfits.1 hfits.2⟩
  case isFalse hfits =>
    have hover : overflow33 t = true := by simpa using mt overflow33_eq_false_iff.1 hfits
    exact ⟨writeChecked_overflows hover, takeException_gpr _ s⟩

end

/-- Settles O1: BitVec sums and differences are those of the numbers modulo 2^32. -/
theorem wrappingArithmetic : Obligations.WrappingArithmetic := by
  intro s rd rs rt imm
  refine ⟨⟨rfl, rfl, rfl⟩, ⟨_, writeResult_next rd _ s, ?addu⟩, ⟨_, writeResult_next rd _ s, ?subu⟩,
    ⟨_, writeResult_next rt _ s, ?addiu⟩⟩
  case addu => exact BitVec.toNat_add _ _
  case subu => exact sub_toNat _ _
  case addiu => rw [add_toNat_signed, sext16_toInt]

/-- Settles O2: the 33-bit result is exact, and the test of its two top bits is the test of the range. -/
theorem checkedArithmetic : Obligations.CheckedArithmetic := fun s rd rs rt imm =>
  ⟨⟨rfl, rfl, rfl, rfl⟩, checkedResult_of_exec rfl (sum33_toInt _ _), checkedResult_of_exec rfl (diff33_toInt _ _),
    checkedResult_of_exec rfl ((sum33_toInt _ _).trans (by rw [sext16_toInt]))⟩

/-! ### Bits of a result (R210 to R217) -/

section

variable (a b : Word) (i : Nat)

theorem bit_and : bit (a &&& b) i = (bit a i && bit b i) := BitVec.getLsbD_and
theorem bit_or : bit (a ||| b) i = (bit a i || bit b i) := BitVec.getLsbD_or
theorem bit_xor : bit (a ^^^ b) i = (bit a i ^^ bit b i) := BitVec.getLsbD_xor
theorem bit_ushiftRight (n : Nat) : bit (a >>> n) i = bit a (n + i) := BitVec.getLsbD_ushiftRight ..

theorem bit_zext16 (imm : Imm16) : bit (zext16 imm) i = imm.getLsbD i := by
  simp only [bit, zext16, BitVec.getLsbD_setWidth, Bool.and_eq_right_iff_imp, decide_eq_true_eq]
  intro h
  exact (BitVec.lt_of_getLsbD h).trans (by decide)

variable {i}

theorem bit_not (h : i < 32) : bit (~~~a) i = !bit a i := by simp [bit, h]
theorem bit_of_ge (h : 32 ≤ i) : bit a i = false := BitVec.getLsbD_of_ge a i h

end

/-- Settles O3, bit by bit; LUI as an appended halfword of zeros. -/
theorem logicalResults : Obligations.LogicalResults := by
  intro s rd rs rt imm
  refine ⟨⟨rfl, rfl, rfl, rfl, rfl, rfl, rfl, rfl⟩, ⟨_, writeResult_next rd _ s, bit_and _ _⟩,
    ⟨_, writeResult_next rd _ s, bit_or _ _⟩, ⟨_, writeResult_next rd _ s, bit_xor _ _⟩,
    ⟨_, writeResult_next rd _ s, ?nor⟩, ⟨_, writeResult_next rt _ s, ?andi⟩, ⟨_, writeResult_next rt _ s, ?ori⟩,
    ⟨_, writeResult_next rt _ s, ?xori⟩, ⟨_, writeResult_next rt _ s, ?lui⟩⟩
  case nor => exact fun i hi => by rw [bit_not _ hi, bit_or]
  case andi => exact fun i => by rw [bit_and, bit_zext16]
  case ori => exact fun i => by rw [bit_or, bit_zext16]
  case xori => exact fun i => by rw [bit_xor, bit_zext16]
  case lui => rw [Laws.append_toNat, BitVec.toNat_zero, Nat.add_zero]

/-! ### Comparisons and conditional moves (R220 to R223, R230, R231) -/

section

variable (a b : Word)

theorem boolWord_ltSigned : boolWord (ltSigned a b) = if a.toInt < b.toInt then 1 else 0 := by simp [boolWord, ltSigned]
theorem boolWord_ltUnsigned : boolWord (ltUnsigned a b) = if a.toNat < b.toNat then 1 else 0 := by
  simp [boolWord, ltUnsigned]

variable {rd rs rt : Reg} {s : State}

theorem exec_movz_zero (h : s.reg rt = 0) : exec (.movz rd rs rt) s = writeResult rd (s.reg rs) s := if_pos h
theorem exec_movz_nonzero (h : s.reg rt ≠ 0) : exec (.movz rd rs rt) s = done s := if_neg h
theorem exec_movn_zero (h : s.reg rt = 0) : exec (.movn rd rs rt) s = done s := if_neg (not_not.2 h)
theorem exec_movn_nonzero (h : s.reg rt ≠ 0) : exec (.movn rd rs rt) s = writeResult rd (s.reg rs) s := if_pos h

end

/-- Settles O4: a comparison is a `boolWord`, and the moves have one equation per side of their condition. -/
theorem comparisonsAndMoves : Obligations.ComparisonsAndMoves := by
  intro s rd rs rt imm
  refine ⟨⟨rfl, rfl, rfl, rfl, rfl, rfl⟩, ?slt, ?sltu, ?slti, ?sltiu, fun hz => ⟨?movz, ?movnKeeps⟩,
    fun hn => ⟨?movn, ?movzKeeps⟩⟩
  case slt => rw [← boolWord_ltSigned]; exact writeResult_next rd _ s
  case sltu => rw [← boolWord_ltUnsigned]; exact writeResult_next rd _ s
  case slti => rw [← sext16_toInt, ← boolWord_ltSigned]; exact writeResult_next rt _ s
  case sltiu => rw [← boolWord_ltUnsigned]; exact writeResult_next rt _ s
  case movz => rw [exec_movz_zero hz]; exact writeResult_next rd _ s
  case movnKeeps => rw [exec_movn_zero hz]; exact done_next s
  case movn => rw [exec_movn_nonzero hn]; exact writeResult_next rd _ s
  case movzKeeps => rw [exec_movz_nonzero hn]; exact done_next s

/-! ### Leading bits (R238, R239) -/

section

variable (w : Word) {i : Nat}

theorem leadingZeros_le : ∀ n, leadingZeros w n ≤ n
  | 0 => le_rfl
  | n + 1 => by
    have ih := leadingZeros_le n
    rw [leadingZeros]
    split <;> omega

/-- The bits that are counted are 0. -/
theorem bit_of_lt_leadingZeros {n : Nat} (h : i < leadingZeros w n) : bit w (n - 1 - i) = false := by
  induction n generalizing i with
  | zero => exact absurd h (Nat.not_lt_zero i)
  | succ n ih =>
    rw [leadingZeros] at h
    split at h
    case isTrue => exact absurd h (Nat.not_lt_zero i)
    case isFalse hbit =>
      cases i with
      | zero => simpa using hbit
      | succ j =>
        rw [show n + 1 - 1 - (j + 1) = n - 1 - j by omega]
        exact ih (by omega)

/-- The bit at which the count stops is 1. -/
theorem bit_leadingZeros {n : Nat} (h : leadingZeros w n < n) : bit w (n - 1 - leadingZeros w n) = true := by
  induction n with
  | zero => exact absurd h (Nat.not_lt_zero _)
  | succ n ih =>
    rw [leadingZeros] at h ⊢
    split
    case isTrue hbit => simpa using hbit
    case isFalse hbit =>
      rw [if_neg hbit] at h
      rw [show n + 1 - 1 - (1 + leadingZeros w n) = n - 1 - leadingZeros w n by omega]
      exact ih (by omega)

theorem countLeadingZeros_leading : LeadingBits false w (countLeadingZeros w).toNat := by
  have hle := leadingZeros_le w 32
  have hcount : (countLeadingZeros w).toNat = leadingZeros w 32 := Nat.mod_eq_of_lt (by omega)
  rw [hcount]
  exact ⟨hle, fun _ => bit_of_lt_leadingZeros w, bit_leadingZeros w⟩

/-- Leading ones are the leading zeros of the complement. -/
theorem countLeadingOnes_leading : LeadingBits true w (countLeadingOnes w).toNat := by
  obtain ⟨hle, hcounted, hstop⟩ := countLeadingZeros_leading (~~~w)
  have hnot (k : Nat) : bit (~~~w) (31 - k) = !bit w (31 - k) := bit_not w (by omega)
  exact ⟨hle, fun i hi => Bool.not_inj ((hnot i).symm.trans (hcounted i hi)),
    fun hn => Bool.not_inj ((hnot _).symm.trans (hstop hn))⟩

end

/-! ### Bytes (R240 to R242) -/

/-- Sign extension keeps the signed number of the low `n` bits of a word. -/
theorem signExtend_low_toInt (w : Word) {n : Nat} (hn : n ≤ 32) :
    ((w.extractLsb' 0 n).signExtend 32).toInt = (w.setWidth n).toInt := by
  rw [BitVec.toInt_signExtend_of_le hn, BitVec.setWidth_eq_extractLsb' hn]

/-- A bit of four joined bytes, by the byte it stands in. -/
theorem getLsbD_append_bytes (b3 b2 b1 b0 : Byte) {i : Nat} (hi : i < 8) :
    let v := b3 ++ b2 ++ b1 ++ b0
    v.getLsbD i = b0.getLsbD i ∧ v.getLsbD (8 + i) = b1.getLsbD i ∧ v.getLsbD (16 + i) = b2.getLsbD i ∧
      v.getLsbD (24 + i) = b3.getLsbD i := by
  simp only [BitVec.getLsbD_append, hi, if_true]
  grind

theorem getLsbD_byte (w : Word) (lo : Nat) {i : Nat} (hi : i < 8) : (w.extractLsb' lo 8).getLsbD i = bit w (lo + i) := by
  simp [bit, hi]

/-- Settles O5: the counts by induction over the bits of the word, the bytes by their places. -/
theorem countsAndByteOperations : Obligations.CountsAndByteOperations := by
  intro s rd rs rt
  refine ⟨⟨rfl, rfl, rfl, rfl, rfl⟩, ⟨_, writeResult_next rd _ s, countLeadingZeros_leading _⟩,
    ⟨_, writeResult_next rd _ s, countLeadingOnes_leading _⟩,
    ⟨_, writeResult_next rd _ s, signExtend_low_toInt _ (by decide)⟩,
    ⟨_, writeResult_next rd _ s, signExtend_low_toInt _ (by decide)⟩,
    ⟨_, writeResult_next rd _ s, ?wsbh⟩⟩
  case wsbh =>
    intro i hi
    obtain ⟨h0, h1, h2, h3⟩ := getLsbD_append_bytes ((s.reg rt).extractLsb' 16 8) ((s.reg rt).extractLsb' 24 8)
      ((s.reg rt).extractLsb' 0 8) ((s.reg rt).extractLsb' 8 8) hi
    rw [getLsbD_byte _ _ hi] at h0 h1 h2 h3
    rw [Nat.zero_add] at h1
    exact ⟨h0, h1, h2, h3⟩

/-! ### Bit fields (R244, R245, U16) -/

section

variable {m lsb i : Nat} (w v : Word)

/-- R244: the field from bit `lsb` on, `m + 1` bits wide, moved down to bit 0. -/
theorem bit_extracted (hm : m ≤ 31) :
    bit ((w >>> lsb) &&& fieldMask 0 (m + 1)) i = (decide (i ≤ m) && bit w (lsb + i)) := by
  rw [bit_and, bit_ushiftRight, Bool.and_comm]
  by_cases hi : i < 32
  · rw [bit_fieldMask hi]
    simp
  · simp [bit_of_ge _ (not_lt.1 hi), show ¬i ≤ m by omega]

/-- R245: the bits from `lsb` to `m` come from `v`, the others stay. -/
theorem bit_inserted (h : lsb ≤ m) (hm : m ≤ 31) : bit (putField w lsb (m - lsb + 1) v) i =
    if lsb ≤ i ∧ i ≤ m then bit v (i - lsb) else bit w i := by
  split
  case isTrue hin => exact bit_putField_in w v hin.1 (by omega) (by omega)
  case isFalse hout =>
    by_cases hi : i < 32
    · exact bit_putField_out w v (by omega) hi
    · rw [bit_of_ge _ (not_lt.1 hi), bit_of_ge _ (not_lt.1 hi)]

end

section

variable {rt rs : Reg} {m lsb : BitVec 5} {s : State}

theorem exec_ext_legal (h : lsb.toNat + m.toNat ≤ 31) : exec (.ext rt rs m lsb) s =
    writeResult rt ((s.reg rs >>> lsb.toNat) &&& fieldMask 0 (m.toNat + 1)) s := if_neg (by omega)

theorem exec_ext_impossible (h : 31 < lsb.toNat + m.toNat) : exec (.ext rt rs m lsb) s =
    writeResult rt s.draw (s.drawn 1) := if_pos h

theorem exec_ins_legal (h : lsb.toNat ≤ m.toNat) : exec (.ins rt rs m lsb) s =
    writeResult rt (putField (s.reg rt) lsb.toNat (m.toNat - lsb.toNat + 1) (s.reg rs)) s := if_neg (by omega)

theorem exec_ins_impossible (h : m.toNat < lsb.toNat) : exec (.ins rt rs m lsb) s =
    writeResult rt s.draw (s.drawn 1) := if_pos h

end

/-- Settles O6: the bounds on the field decide the branch of EXT and INS; within them the result is read bit by bit. -/
theorem bitFields : Obligations.BitFields := by
  intro s rt rs m lsb
  have hm : m.toNat ≤ 31 := Nat.le_of_lt_succ m.isLt
  refine ⟨⟨rfl, rfl⟩, fun h => ?ext, fun h => ?ins, fun h => ?extFree, fun h => ?insFree⟩
  case ext =>
    rw [exec_ext_legal h]
    exact ⟨_, writeResult_next rt _ s, fun i => bit_extracted _ hm⟩
  case ins =>
    rw [exec_ins_legal h]
    exact ⟨_, writeResult_next rt _ s, fun i => bit_inserted _ _ h hm⟩
  case extFree =>
    rw [exec_ext_impossible h]
    exact writeResult_next rt s.draw (s.drawn 1)
  case insFree =>
    rw [exec_ins_impossible h]
    exact writeResult_next rt s.draw (s.drawn 1)

end Sys2Proof.Machine
end

section
/-! SUPPORT. What shifts and rotates compute (41_shift.md): each operator of the model as arithmetic on the operand's number, or
bit by bit, for a count of any size; and the count that a register gives. -/

namespace Sys2Proof.Machine

section

variable (w : Word) (n : Nat)

theorem shiftLeft_toNat : (w <<< n).toNat = w.toNat * 2 ^ n % 2 ^ 32 := by
  rw [BitVec.toNat_shiftLeft, Nat.shiftLeft_eq]

theorem ushiftRight_toNat : (w >>> n).toNat = w.toNat / 2 ^ n := by
  rw [BitVec.toNat_ushiftRight, Nat.shiftRight_eq_div_pow]

/-- R262: a right shift that copies the sign rounds the quotient towards minus infinity. -/
theorem sshiftRight_toInt : (w.sshiftRight n).toInt = w.toInt / 2 ^ n := by
  rw [BitVec.toInt_sshiftRight, Int.shiftRight_eq_div_pow, Nat.cast_pow, Nat.cast_ofNat]

/-- R266: the bits below `32 - n % 32` move down, those above it come round from bit 0 on. -/
theorem bit_rotateRight {i : Nat} (hi : i < 32) : bit (w.rotateRight n) i = bit w ((i + n) % 32) := by
  rw [bit, bit, BitVec.getLsbD_rotateRight]
  by_cases hlow : i < 32 - n % 32
  · have place : n % 32 + i = (i + n) % 32 := by omega
    simp [hlow, place]
  · have place : i - (32 - n % 32) = (i + n) % 32 := by omega
    simp [hlow, hi, place]

end

/-- R263: the low five bits of a number are its remainder modulo 32. -/
theorem shiftCount_eq_mod (rs : Reg) (s : State) : shiftCount rs s = (s.reg rs).toNat % 32 := by
  rw [shiftCount, field, BitVec.extractLsb'_toNat, Nat.shiftRight_zero]

/-- Settles O7: the same fact about an operator serves its instruction with `sa` and the one with the count of a register. -/
theorem shiftsAndRotates : Obligations.ShiftsAndRotates := by
  intro s rd rt rs sa count
  have hcount : shiftCount rs s = count := shiftCount_eq_mod rs s
  rw [← hcount]
  exact ⟨⟨rfl, rfl, rfl, rfl, rfl, rfl, rfl, rfl⟩, ⟨_, writeResult_next rd _ s, shiftLeft_toNat _ _⟩,
    ⟨_, writeResult_next rd _ s, ushiftRight_toNat _ _⟩, ⟨_, writeResult_next rd _ s, sshiftRight_toInt _ _⟩,
    ⟨_, writeResult_next rd _ s, shiftLeft_toNat _ _⟩, ⟨_, writeResult_next rd _ s, ushiftRight_toNat _ _⟩,
    ⟨_, writeResult_next rd _ s, sshiftRight_toInt _ _⟩, ⟨_, writeResult_next rd _ s, fun _ => bit_rotateRight _ _⟩,
    ⟨_, writeResult_next rd _ s, fun _ => bit_rotateRight _ _⟩⟩

end Sys2Proof.Machine
end

section
/-! SUPPORT. What multiply, divide and the moves of HI and LO compute (42_muldiv.md). A product or an accumulation is one
integer that the model reduces to 64 bits and cuts into HI and LO; a quotient and its remainder are those of truncating
division. -/

namespace Sys2Proof.Machine

/-- Setting HI and LO and advancing is the whole effect, whatever the two words are. -/
theorem doneHiLo_next (hi lo : Word) (s : State) : Next (done { s with hi := hi, lo := lo }) (WroteHiLo hi lo s) :=
  ⟨_, rfl, rfl, rfl, ⟨rfl, rfl, rfl⟩, fun _ => rfl, rfl⟩

/-- Settles O10: MTHI and MTLO set one half of HI and LO and leave the other. -/
theorem hiLoMoves : Obligations.HiLoMoves := fun s r =>
  ⟨⟨rfl, rfl, rfl, rfl⟩, writeResult_next r s.hi s, writeResult_next r s.lo s, doneHiLo_next (s.reg r) s.lo s,
    doneHiLo_next s.hi (s.reg r) s⟩

/-! ### HI and LO as one integer modulo 2^64 (R281, R282, R291) -/

section

variable (a b : Word)

/-- The two words that `writeHiLo` writes are the digits of `p` to the base 2^32. -/
theorem hiLo_digits (p : BitVec 64) : (p.extractLsb' 32 32).toNat * 2 ^ 32 + (p.extractLsb' 0 32).toNat = p.toNat := by
  rw [← Laws.append_toNat]
  exact congrArg BitVec.toNat BitVec.extractLsb'_append_extractLsb'

/-- An instruction that writes the integer `x`, reduced to 64 bits, to HI and LO. -/
theorem hiLoHolds_of_exec {i : Instr} {x : Int} {s : State} (h : exec i s = writeHiLo (BitVec.ofInt 64 x) s) :
    HiLoHolds i x s := by
  refine ⟨_, _, h ▸ writeHiLo_next _ s, ?_⟩
  rw [hiLo_digits, BitVec.toNat_ofInt, Int.toNat_of_nonneg (Int.emod_nonneg x (by decide))]
  rfl

theorem productUnsigned_eq_ofInt : productUnsigned a b = BitVec.ofInt 64 (a.toNat * b.toNat) := by
  rw [productUnsigned, ← Int.natCast_mul, BitVec.ofInt_natCast]

theorem State.acc_eq_ofInt (s : State) : s.acc = BitVec.ofInt 64 (s.hi.toNat * 2 ^ 32 + s.lo.toNat) := by
  have hacc : s.acc.toNat = s.hi.toNat * 2 ^ 32 + s.lo.toNat := Laws.append_toNat s.hi s.lo
  rw [← s.acc.setWidth_eq, ← BitVec.ofNat_toNat, hacc, ← BitVec.ofInt_natCast]
  rfl

theorem ofInt64_sub (x y : Int) : BitVec.ofInt 64 (x - y) = BitVec.ofInt 64 x - BitVec.ofInt 64 y := by
  rw [Int.sub_eq_add_neg, BitVec.ofInt_add, BitVec.ofInt_neg, BitVec.sub_eq_add_neg]

theorem ofInt64_low (x : Int) : (BitVec.ofInt 64 x).extractLsb' 0 32 = BitVec.ofInt 32 x := by
  rw [← BitVec.toNat_inj, BitVec.extractLsb'_toNat, BitVec.toNat_ofInt, BitVec.toNat_ofInt, Nat.shiftRight_zero]
  omega

/-- R290: the low word of the product is the same for signed and unsigned operands. -/
theorem productSigned_low : (productSigned a b).extractLsb' 0 32 = a * b := by
  rw [productSigned, ofInt64_low, BitVec.ofInt_mul, BitVec.ofInt_toInt, BitVec.ofInt_toInt]

end

/-- Settles O8: every product and accumulation is an integer reduced to 64 bits, since reduction keeps sums and differences. -/
theorem products : Obligations.Products := by
  intro s rd rs rt
  refine ⟨⟨rfl, rfl, rfl, rfl, rfl, rfl, rfl⟩, hiLoHolds_of_exec rfl, hiLoHolds_of_exec ?multu,
    hiLoHolds_of_exec ?madd, hiLoHolds_of_exec ?maddu, hiLoHolds_of_exec ?msub, hiLoHolds_of_exec ?msubu,
    ⟨_, BitVec.toNat_mul _ _, ?mul⟩⟩
  case multu => rw [← productUnsigned_eq_ofInt]; rfl
  case madd => rw [BitVec.ofInt_add, ← State.acc_eq_ofInt]; rfl
  case maddu => rw [BitVec.ofInt_add, ← State.acc_eq_ofInt, ← productUnsigned_eq_ofInt]; rfl
  case msub => rw [ofInt64_sub, ← State.acc_eq_ofInt]; rfl
  case msubu => rw [ofInt64_sub, ← State.acc_eq_ofInt, ← productUnsigned_eq_ofInt]; rfl
  case mul => rw [← productSigned_low]; exact writeResult_next rd _ s.freeHiLo

/-! ### Truncating division (R283, R284, D13, U17) -/

section

variable (a b : Word)

theorem ofInt_tdiv : BitVec.ofInt 32 (a.toInt.tdiv b.toInt) = a.sdiv b :=
  BitVec.eq_of_toInt_eq ((BitVec.toInt_ofInt _).trans (BitVec.toInt_sdiv a b).symm)

theorem ofInt_tmod : BitVec.ofInt 32 (a.toInt.tmod b.toInt) = a.srem b := by
  rw [← BitVec.toInt_srem, BitVec.ofInt_toInt]

theorem ofNat_div : BitVec.ofNat 32 (a.toNat / b.toNat) = a / b := by
  rw [← BitVec.toNat_udiv, BitVec.ofNat_toNat, BitVec.setWidth_eq]

theorem ofNat_mod : BitVec.ofNat 32 (a.toNat % b.toNat) = a % b := by
  rw [← BitVec.toNat_umod, BitVec.ofNat_toNat, BitVec.setWidth_eq]

/-- The remainder of truncating division is 0 or has the sign of the dividend. -/
theorem tmod_mul_self_nonneg (n d : Int) : 0 ≤ n.tmod d * n := by
  rcases le_total 0 n with hn | hn
  · exact mul_nonneg (Int.tmod_nonneg d hn) hn
  · have hneg : 0 ≤ -n.tmod d := Int.neg_tmod n d ▸ Int.tmod_nonneg d (neg_nonneg.2 hn)
    exact mul_nonneg_of_nonpos_of_nonpos (neg_nonneg.1 hneg) hn

variable {a b}

/-- D13: the one quotient that 32 signed bits do not hold is 2^31; its low word is -2^31. -/
theorem sdiv_srem_overflow (ha : a.toInt = -2 ^ 31) (hb : b.toInt = -1) : a.sdiv b = 0x80000000 ∧ a.srem b = 0 := by
  rw [← ofInt_tdiv, ← ofInt_tmod, ha, hb]
  exact ⟨rfl, rfl⟩

/-- Outside the overflowing case the quotient is exact. -/
theorem sdiv_toInt_exact (h : ¬(a.toInt = -2 ^ 31 ∧ b.toInt = -1)) : (a.sdiv b).toInt = a.toInt.tdiv b.toInt := by
  refine BitVec.toInt_sdiv_of_ne_or_ne a b ((not_and_or.1 h).imp (mt fun ha => ?_) (mt fun hb => ?_))
  · rw [ha]; rfl
  · rw [hb]; rfl

variable {rs rt : Reg} {s : State}

theorem exec_div_nonzero (h : s.reg rt ≠ 0) : exec (.div rs rt) s =
    done { s with hi := (s.reg rs).srem (s.reg rt), lo := (s.reg rs).sdiv (s.reg rt) } := by
  rw [← ofInt_tdiv, ← ofInt_tmod]
  exact if_neg h

theorem exec_divu_nonzero (h : s.reg rt ≠ 0) : exec (.divu rs rt) s =
    done { s with hi := s.reg rs % s.reg rt, lo := s.reg rs / s.reg rt } := by
  rw [← ofNat_div, ← ofNat_mod]
  exact if_neg h

theorem exec_div_zero (h : s.reg rt = 0) : exec (.div rs rt) s = done s.freeHiLo := if_pos h
theorem exec_divu_zero (h : s.reg rt = 0) : exec (.divu rs rt) s = done s.freeHiLo := if_pos h

end

/-- Settles O9: the divisor decides the branch, and the overflowing case is the only one in which the quotient is not exact. -/
theorem division : Obligations.Division := by
  intro s rs rt
  refine ⟨⟨rfl, rfl⟩, fun hd => ⟨⟨_, _, exec_div_nonzero hd ▸ doneHiLo_next _ _ s, ?div⟩,
    ⟨_, _, exec_divu_nonzero hd ▸ doneHiLo_next _ _ s, ?divu, ?divuRemainder⟩⟩, fun hz => ?zero⟩
  case div =>
    split
    case isTrue hover => exact sdiv_srem_overflow hover.1 hover.2
    case isFalse hfits =>
      rw [sdiv_toInt_exact hfits, BitVec.toInt_srem, Int.natAbs_tmod]
      exact ⟨(Int.mul_tdiv_add_tmod _ _).symm, Nat.mod_lt _ (Int.natAbs_pos.2 (BitVec.toInt_ne.2 hd)),
        tmod_mul_self_nonneg _ _⟩
  case divu => rw [BitVec.toNat_udiv, BitVec.toNat_umod, Nat.div_add_mod]
  case divuRemainder => exact BitVec.umod_lt _ ((BitVec.pos_iff_ne_zero _).2 hd)
  case zero =>
    intro i hi
    have hexec : exec i s = done s.freeHiLo := by
      rcases List.mem_pair.1 hi with rfl | rfl
      · exact exec_div_zero hz
      · exact exec_divu_zero hz
    rw [hexec]
    exact doneHiLo_next s.draw (s.drawn 1).draw (s.drawn 2)

end Sys2Proof.Machine
end

section
/-! SUPPORT. What branches and jumps do (43_branch.md): where they go, read as numbers; what their conditions test; the register
a link writes; and what a delay slot and the link register forbid. -/

namespace Sys2Proof.Machine

/-! ### Targets (R312, R330) -/

/-- R312: two places to the left are a multiplication by 4, which keeps the sign of the offset. -/
theorem branchTarget_eq_goesTo (s : State) (off : Imm16) : branchTarget s.pc off = branchGoesTo s off := by
  have hpc : BitVec.ofInt 32 s.pc.toNat = s.pc := by rw [BitVec.ofInt_natCast, BitVec.ofNat_toNat, BitVec.setWidth_eq]
  have hoff : BitVec.ofInt 32 off.toInt = sext16 off := rfl
  rw [branchTarget, branchGoesTo, BitVec.ofInt_add, BitVec.ofInt_add, BitVec.ofInt_mul, hpc, hoff,
    BitVec.shiftLeft_eq_mul_twoPow, BitVec.mul_comm]
  rfl

/-- R330: the parts of the target are its digits: four bits of the address of the delay slot, the index, two zeros. -/
theorem jumpTarget_eq_goesTo (s : State) (index : BitVec 26) : jumpTarget s.pc index = jumpGoesTo s index := by
  have hslot : (s.pc + 4).toNat < 2 ^ 32 := (s.pc + 4).isLt
  have hindex : index.toNat < 2 ^ 26 := index.isLt
  rw [jumpTarget, jumpGoesTo, ← BitVec.toNat_inj, Laws.append_toNat, Laws.append_toNat, BitVec.extractLsb'_toNat,
    Nat.shiftRight_eq_div_pow, BitVec.toNat_ofNat, BitVec.toNat_ofNat]
  omega

/-! ### Conditions (R317 to R320) -/

theorem not_notPositive (w : Word) : (!notPositive w) = decide (0 < w.toInt) := by
  rw [notPositive, ← decide_not, decide_eq_decide, not_le]
theorem not_negative (w : Word) : (!negative w) = decide (0 ≤ w.toInt) := by
  rw [negative, ← decide_not, decide_eq_decide, not_lt]

/-! ### The link register (R321, R331, R333) -/

theorem setReg_linked (rd : Reg) (v : Word) (s : State) : Linked rd v s (s.setReg rd v) :=
  ⟨State.reg_setReg s rd v, State.setReg_rest s rd v⟩

theorem link_linked (s : State) : Linked 31#5 (s.pc + 8) s s.link := setReg_linked 31#5 (s.pc + 8) s

@[simp] theorem State.link_pc (s : State) : s.link.pc = s.pc := State.setReg_pc s 31#5 _
@[simp] theorem State.link_inDelaySlot (s : State) : s.link.inDelaySlot = s.inDelaySlot := State.setReg_inDelaySlot s 31#5 _

/-! ### Inside and outside a delay slot (R313, U19) -/

section

variable {s : State} {k : Out}

theorem outsideSlot_inside (h : s.inDelaySlot = true) : outsideSlot s k = .refused .delaySlotControl := if_pos h
theorem outsideSlot_outside (h : s.inDelaySlot = false) : outsideSlot s k = k := if_neg (by simp [h])
theorem privileged_usable (h : s.cp0Usable = true) : privileged s k = k := if_pos h

variable {rs : Reg}

theorem outsideSlot_linking (h : s.inDelaySlot = false) (hrs : rs ≠ 31#5) : outsideSlot s (linking rs k) = k :=
  (outsideSlot_outside h).trans (if_neg hrs)

theorem outsideSlot_linking_refused (h : s.inDelaySlot = false) (hrs : rs = 31#5) :
    outsideSlot s (linking rs k) = .refused .linkRegister := (outsideSlot_outside h).trans (if_pos hrs)

theorem exec_jalr_apart {rd : Reg} (hint : BitVec 5) (h : s.inDelaySlot = false) (hrd : rd ≠ rs) :
    exec (.jalr rd rs hint) s = jump (s.reg rs) (s.setReg rd (s.pc + 8)) := (outsideSlot_outside h).trans (if_neg hrd)

theorem exec_jalr_same {rd : Reg} (hint : BitVec 5) (h : s.inDelaySlot = false) (hrd : rd = rs) :
    exec (.jalr rd rs hint) s = .refused .linkRegister := (outsideSlot_outside h).trans (if_pos hrd)

/-- R313: no branch and no jump does anything in a delay slot. -/
theorem exec_isBranch_inside {i : Instr} (hi : isBranch i = true) (h : s.inDelaySlot = true) :
    exec i s = .refused .delaySlotControl := by
  cases i with
  | jal => exact outsideSlot_inside ((State.link_inDelaySlot s).trans h)
  | j | jr | jalr | beq | bne | blez | bgtz | bltz | bgez | beql | bnel | blezl | bgtzl | bltzl | bgezl | bltzal | bgezal
  | bltzall | bgezall => exact outsideSlot_inside h
  | _ => cases hi

end

/-! ### Instructions that answer as a branch, of `s` itself or of the state in which `s` has linked -/

section

variable {s u : State} {i : Instr} {off : Imm16} {c taken : Bool} (hc : c = taken) (hpc : u.pc = s.pc)
  (hslot : u.inDelaySlot = false)

include hc hpc hslot

theorem branched_of_exec (hi : exec i s = branch c off u) : Next (exec i s) (Branched taken (branchGoesTo s off) u) := by
  rw [hi, hc, ← branchTarget_eq_goesTo, ← hpc]
  exact branch_next taken off u hslot

theorem branchedLikely_of_exec (hi : exec i s = branchLikely c off u) :
    Next (exec i s) (BranchedLikely taken (branchGoesTo s off) u) := by
  rw [hi, hc, ← branchTarget_eq_goesTo, ← hpc]
  exact branchLikely_next taken off u hslot

end

/-- Settles O11: a condition of the model is the one of its rule, and so is the target. -/
theorem conditionalBranches : Obligations.ConditionalBranches := fun _ _ _ _ h =>
  ⟨⟨rfl, rfl, rfl, rfl, rfl, rfl, rfl, rfl, rfl, rfl, rfl, rfl⟩,
    branched_of_exec rfl rfl h rfl, branched_of_exec rfl rfl h rfl,
    branched_of_exec rfl rfl h rfl, branched_of_exec (not_notPositive _) rfl h rfl,
    branched_of_exec rfl rfl h rfl, branched_of_exec (not_negative _) rfl h rfl,
    branchedLikely_of_exec rfl rfl h rfl, branchedLikely_of_exec rfl rfl h rfl,
    branchedLikely_of_exec rfl rfl h rfl, branchedLikely_of_exec (not_notPositive _) rfl h rfl,
    branchedLikely_of_exec rfl rfl h rfl, branchedLikely_of_exec (not_negative _) rfl h rfl⟩

/-- Settles O12: a linking branch is the plain branch of the linked state, whose pc and delay slot are those of `s`. -/
theorem linkingBranches : Obligations.LinkingBranches := by
  intro s rs off h
  have hlink : s.link.inDelaySlot = false := s.link_inDelaySlot.trans h
  refine ⟨⟨rfl, rfl, rfl, rfl⟩, fun hrs => ⟨s.link, link_linked s, ?bltzal, ?bgezal, ?bltzall, ?bgezall⟩,
    fun hrs i hi => ?refused⟩
  case bltzal => exact branched_of_exec rfl s.link_pc hlink (outsideSlot_linking h hrs)
  case bgezal => exact branched_of_exec (not_negative _) s.link_pc hlink (outsideSlot_linking h hrs)
  case bltzall => exact branchedLikely_of_exec rfl s.link_pc hlink (outsideSlot_linking h hrs)
  case bgezall => exact branchedLikely_of_exec (not_negative _) s.link_pc hlink (outsideSlot_linking h hrs)
  case refused =>
    simp only [List.mem_cons, List.not_mem_nil, or_false] at hi
    rcases hi with rfl | rfl | rfl | rfl
    all_goals exact outsideSlot_linking_refused h hrs

/-- Settles O13: each jump is the jump of a state in which at most the link has been written. -/
theorem jumps : Obligations.Jumps := by
  intro s rd rs index hint h
  rw [← jumpTarget_eq_goesTo]
  refine ⟨⟨rfl, rfl, rfl, rfl⟩, jump_next _ s h, jump_next _ s h, ⟨s.link, link_linked s, ?jal⟩,
    fun hrd => ⟨s.setReg rd (s.pc + 8), setReg_linked rd _ s, ?jalr⟩, exec_jalr_same hint h⟩
  case jal => exact jump_next _ _ (s.link_inDelaySlot.trans h)
  case jalr =>
    rw [exec_jalr_apart hint h hrd]
    exact jump_next _ _ ((State.setReg_inDelaySlot s rd _).trans h)

/-- Settles O14: with coprocessor 0 usable ERET, WAIT and DERET come to the same test of the delay slot as a branch. -/
theorem refusedControl : Obligations.RefusedControl := by
  intro s h
  refine ⟨fun i hi => exec_isBranch_inside hi h, fun hcp0 => ⟨?eret, fun c => ?wait, fun hdm => ?deret⟩⟩
  case eret => exact (privileged_usable hcp0).trans (outsideSlot_inside h)
  case wait => exact (privileged_usable hcp0).trans (outsideSlot_inside h)
  case deret => exact (privileged_usable hcp0).trans ((if_pos hdm).trans (outsideSlot_inside h))

end Sys2Proof.Machine
end

section
/-! SUPPORT. Some bytes of a word as part of its number (20_memory.md R101, 44_loadstore.md R365): the byte lanes of an access read
or replace digits to the base 256, and LWL and LWR join them to the old register. -/

namespace Sys2Proof.Machine

/-! ### Digits of a number -/

theorem pow256_eq (m : Nat) : 256 ^ m = 2 ^ (8 * m) := by rw [Nat.pow_mul]

theorem bytesNat_lt (big : Bool) (bs : List Byte) : bytesNat big bs < 256 ^ bs.length := by
  cases big with
  | false => exact bytesNat_little_lt bs
  | true =>
    rw [bytesNat_big, ← List.length_reverse]
    exact bytesNat_little_lt bs.reverse

theorem bytesNat_little_append (a b : List Byte) :
    bytesNat false (a ++ b) = bytesNat false a + 256 ^ a.length * bytesNat false b := by
  rw [bytesNat_little, List.map_append, Nat.ofDigits_append, List.length_map, ← bytesNat_little, ← bytesNat_little]

theorem bytesNat_big_append (a b : List Byte) : bytesNat true (a ++ b) = bytesNat true a * 256 ^ b.length + bytesNat true b := by
  rw [bytesNat_big, List.reverse_append, bytesNat_little_append, List.length_reverse, ← bytesNat_big, ← bytesNat_big,
    Nat.mul_comm, Nat.add_comm]

/-- Bytes in the middle of others are digits of the whole number; the other digits do not depend on them. -/
theorem bytesNat_middle (big : Bool) (a c : List Byte) : ∃ high low, low < 256 ^ (if big then c else a).length ∧
    ∀ b, bytesNat big (a ++ b ++ c) =
      (high * 256 ^ b.length + bytesNat big b) * 256 ^ (if big then c else a).length + low := by
  cases big with
  | false =>
    refine ⟨bytesNat false c, bytesNat false a, bytesNat_lt false a, fun b => ?_⟩
    rw [List.append_assoc, bytesNat_little_append, bytesNat_little_append]
    simp only [Bool.false_eq_true, if_false]
    ring
  | true =>
    refine ⟨bytesNat true a, bytesNat true c, bytesNat_lt true c, fun b => ?_⟩
    rw [bytesNat_big_append, bytesNat_big_append]
    rfl

section

variable {high low x w n sh : Nat}

/-- The digits `x` of a number read back. -/
theorem digits_read (hlow : low < 256 ^ sh) (hx : x < 256 ^ n) :
    ((high * 256 ^ n + x) * 256 ^ sh + low) / 256 ^ sh % 256 ^ n = x := by
  rw [Nat.add_comm, Nat.add_mul_div_right _ _ (by positivity), Nat.div_eq_of_lt hlow, Nat.zero_add, Nat.add_comm,
    Nat.add_mul_mod_self_right, Nat.mod_eq_of_lt hx]

theorem digits_low (hlow : low < 256 ^ sh) : ((high * 256 ^ n + x) * 256 ^ sh + low) % 256 ^ sh = low := by
  rw [Nat.add_comm, Nat.add_mul_mod_self_right, Nat.mod_eq_of_lt hlow]

theorem digits_high (hlow : low < 256 ^ sh) (hx : x < 256 ^ n) :
    ((high * 256 ^ n + x) * 256 ^ sh + low) / 256 ^ (sh + n) = high := by
  rw [Nat.pow_add, ← Nat.div_div_eq_div_mul, Nat.add_comm, Nat.add_mul_div_right _ _ (by positivity), Nat.div_eq_of_lt hlow,
    Nat.zero_add, Nat.add_comm, Nat.add_mul_div_right _ _ (by positivity), Nat.div_eq_of_lt hx, Nat.zero_add]

end

/-! ### The byte lanes of a word in memory (R365) -/

section

variable {s t : State} {key sh n : Nat}

theorem State.memBytes_congr {k : Nat} (h : ∀ i, i < n → t.memByte (k + i) = s.memByte (k + i)) :
    t.memBytes k n = s.memBytes k n :=
  List.ext_getElem (by rw [State.memBytes_length, State.memBytes_length]) fun i hi _ => by
    rw [State.memBytes_length] at hi
    rw [State.memBytes_getElem, State.memBytes_getElem, h i hi]

theorem cellsNat_lt (s : State) (key n : Nat) : cellsNat s key n < 256 ^ n := by
  have h := bytesNat_lt s.params.bigEndian (s.memBytes key n)
  rwa [State.memBytes_length] at h

theorem valueLanes_lo (s : State) (sh n : Nat) :
    (valueLanes s sh n).lo = if s.params.bigEndian then 4 - n - sh else sh := rfl

theorem valueLanes_lo_le (h : sh + n ≤ 4) : (valueLanes s sh n).lo + n ≤ 4 := by
  rw [valueLanes_lo]
  split <;> omega

/-- `t` has the byte order and the bytes of the word of `s`, but for the lanes of an access. -/
structure SameAround (key : Nat) (l : Lanes) (s t : State) : Prop where
  order : t.params = s.params
  below : ∀ i, i < l.lo → t.memByte (key + i) = s.memByte (key + i)
  above : ∀ i, l.lo + l.n ≤ i → i < 4 → t.memByte (key + i) = s.memByte (key + i)

/-- The `n` bytes from value byte `sh` on are `n` digits of the word, and the other digits are those of the bytes around them. -/
theorem cellsNat_valueLanes (s : State) (key : Nat) (h : sh + n ≤ 4) : ∃ high low, low < 256 ^ sh ∧
    ∀ t, SameAround key (valueLanes s sh n) s t →
      cellsNat t key 4 = (high * 256 ^ n + cellsNat t (key + (valueLanes s sh n).lo) n) * 256 ^ sh + low := by
  have fits := valueLanes_lo_le (s := s) h
  have hlo := valueLanes_lo s sh n
  generalize hl : valueLanes s sh n = l at fits hlo ⊢
  have hn : l.n = n := by rw [← hl]; rfl
  obtain ⟨high, low, hlow, digits⟩ :=
    bytesNat_middle s.params.bigEndian (s.memBytes key l.lo) (s.memBytes (key + (l.lo + n)) (4 - (l.lo + n)))
  have place : (if s.params.bigEndian then s.memBytes (key + (l.lo + n)) (4 - (l.lo + n)) else s.memBytes key l.lo).length = sh := by
    rw [hlo]
    cases s.params.bigEndian with
    | false => exact s.memBytes_length key sh
    | true => exact (s.memBytes_length _ _).trans (show 4 - (4 - n - sh + n) = sh by omega)
  rw [place] at hlow digits
  refine ⟨high, low, hlow, fun t same => ?_⟩
  have word : t.memBytes key 4 =
      s.memBytes key l.lo ++ t.memBytes (key + l.lo) n ++ s.memBytes (key + (l.lo + n)) (4 - (l.lo + n)) := by
    rw [← State.memBytes_congr fun i hi => same.below i hi, ← State.memBytes_append,
      ← State.memBytes_congr (t := t) (s := s) (k := key + (l.lo + n)) fun i hi => by
        rw [Nat.add_assoc key]
        exact same.above (l.lo + n + i) (by omega) (by omega),
      ← State.memBytes_append, Nat.add_sub_cancel' fits]
  rw [cellsNat, cellsNat, same.order, word, digits, State.memBytes_length]

theorem SameAround.refl (s : State) (key : Nat) (l : Lanes) : SameAround key l s s :=
  ⟨rfl, fun _ _ => rfl, fun _ _ _ => rfl⟩

/-- R366, R367: what the lanes hold is part of the word. -/
theorem cellsNat_lanes_read (s : State) (key : Nat) (h : sh + n ≤ 4) :
    cellsNat s (key + (valueLanes s sh n).lo) n = cellsNat s key 4 / 256 ^ sh % 256 ^ n := by
  obtain ⟨high, low, hlow, word⟩ := cellsNat_valueLanes s key h
  rw [word s (.refl s key _), digits_read hlow (cellsNat_lt _ _ _)]

/-- R368, R369: a word whose lanes have been written keeps its other digits. -/
theorem cellsNat_lanes_written (h : sh + n ≤ 4) (same : SameAround key (valueLanes s sh n) s t) :
    cellsNat t key 4 = cellsNat s key 4 / 256 ^ (sh + n) * 256 ^ (sh + n) +
      cellsNat t (key + (valueLanes s sh n).lo) n * 256 ^ sh + cellsNat s key 4 % 256 ^ sh := by
  obtain ⟨high, low, hlow, word⟩ := cellsNat_valueLanes s key h
  rw [word s (.refl s key _), word t same, digits_high hlow (cellsNat_lt _ _ _), digits_low hlow, Nat.pow_add]
  ring

end

/-! ### Merging with the old register (R366, R367) -/

section

variable (k : Nat) (v old : Word)

theorem fieldMask_toNat {m : Nat} (hm : m ≤ 32) : (fieldMask 0 m).toNat = 2 ^ m - 1 := by
  have fits : 2 ^ m ≤ 2 ^ 32 := Nat.pow_le_pow_right (by decide) hm
  rw [fieldMask, BitVec.shiftLeft_zero, BitVec.toNat_ofNat]
  exact Nat.mod_eq_of_lt (by omega)

theorem and_fieldMask_toNat {m : Nat} (hm : m ≤ 32) : (v &&& fieldMask 0 m).toNat = v.toNat % 2 ^ m := by
  rw [BitVec.toNat_and, fieldMask_toNat hm, Nat.and_two_pow_sub_one_eq_mod]

/-- Clearing the low bits takes the number down to a multiple. -/
theorem and_not_fieldMask {m : Nat} : v &&& ~~~fieldMask 0 m = (v >>> m) <<< m := by
  refine BitVec.eq_of_getLsbD_eq fun i hi => ?_
  have mask : (fieldMask 0 m).getLsbD i = decide (0 ≤ i ∧ i < 0 + m) := bit_fieldMask hi
  rw [BitVec.getLsbD_and, BitVec.getLsbD_not, mask, BitVec.getLsbD_shiftLeft, BitVec.getLsbD_ushiftRight]
  by_cases him : i < m
  · simp [him]
  · simp [him, hi, Nat.add_sub_cancel' (Nat.le_of_not_lt him)]

theorem and_not_fieldMask_toNat {m : Nat} : (v &&& ~~~fieldMask 0 m).toNat = v.toNat / 2 ^ m * 2 ^ m := by
  rw [and_not_fieldMask, shiftLeft_toNat, ushiftRight_toNat]
  exact Nat.mod_eq_of_lt ((Nat.div_mul_le_self _ _).trans_lt v.isLt)

/-- A multiple of `2 ^ m` and a smaller number have no bit in common. -/
theorem multiple_or_eq_add {a b m : Nat} (hb : b < 2 ^ m) : a * 2 ^ m ||| b = a * 2 ^ m + b := by
  rw [Nat.mul_comm, ← Nat.two_pow_add_eq_or_of_lt hb]

theorem mergeLeft_toNat (hk : k ≤ 3) : (mergeLeft k v old).toNat =
    v.toNat % 256 ^ (k + 1) * 256 ^ (3 - k) + old.toNat % 256 ^ (3 - k) := by
  have word : (2 : Nat) ^ 32 = 2 ^ (8 * (k + 1)) * 2 ^ (8 * (3 - k)) := by rw [← Nat.pow_add]; congr 1; omega
  rw [mergeLeft, BitVec.toNat_or, shiftLeft_toNat, and_fieldMask_toNat old (by omega), word, Nat.mul_mod_mul_right,
    multiple_or_eq_add (Nat.mod_lt _ (by positivity)), pow256_eq, pow256_eq]

theorem mergeRight_toNat (hk : k ≤ 3) : (mergeRight k v old).toNat =
    old.toNat / 256 ^ (4 - k) * 256 ^ (4 - k) + v.toNat % 256 ^ (4 - k) := by
  have masks : ∀ k, k ≤ 3 → 0xFFFFFFFF#32 >>> (8 * k) = fieldMask 0 (8 * (4 - k)) := by decide
  rw [mergeRight, masks k hk, BitVec.toNat_or, and_not_fieldMask_toNat, and_fieldMask_toNat v (by omega),
    multiple_or_eq_add (Nat.mod_lt _ (by positivity)), pow256_eq]

end

end Sys2Proof.Machine
end

section
/-! SUPPORT. Uncached loads and stores without an event (44_loadstore.md R351 to R381), and the write buffer that drains into RAM
(20_memory.md R141, R142). -/

namespace Sys2Proof.Machine

section

variable {s : State} {va pa : Word} {rt base : Reg} {off : Imm16} {key n sh a : Nat} {bs : List Byte}

/-! ### The write buffer -/

/-- What answers an address does not depend on the write buffer and on what memory holds. -/
theorem BackedBy.storage {kind : RegionKind} (h : BackedBy s a key kind) (l : List (Nat × List Byte)) (m : List Host.Cell) :
    BackedBy { s with wbuf := l, mem := m } a key kind := h

theorem drainOne_ram {rest : List (Nat × List Byte)} (hw : s.wbuf = (a, bs) :: rest) (hb : BackedBy s a key .ram) :
    drainOne s = .ok () (({ s with wbuf := rest } : State).setMemBytes key bs) := by
  have cell : route { s with wbuf := rest } a = .cell key .ram := hb.storage rest s.mem
  rw [drainOne, hw]
  dsimp only
  rw [busWrite, writeRoute_cell cell]

/-- R141: stores to RAM leave in order and change memory alone. -/
theorem drainTimes_ram (l : List (Nat × List Byte)) (hw : s.wbuf = l) (ha : s.between = [])
    (hb : ∀ e ∈ l, ∃ key, BackedBy s e.1 key .ram) :
    ∃ m, drainTimes l.length s = .ok () { s with wbuf := [], mem := m } := by
  induction l generalizing s with
  | nil => exact ⟨s.mem, by rw [List.length_nil, drainTimes, ← hw]⟩
  | cons e rest ih =>
    obtain ⟨key, cell⟩ := hb e List.mem_cons_self
    have first := drainOne_ram hw cell
    rw [State.setMemBytes_eq] at first
    obtain ⟨m, drained⟩ := ih (s := { s with wbuf := rest, mem := (({ s with wbuf := rest } : State).setMemBytes key e.2).mem })
      rfl ha fun e he => (hb e (List.mem_cons_of_mem _ he)).imp fun _ cell => cell.storage _ _
    refine ⟨m, ?_⟩
    rw [List.length_cons, drainTimes, agentsMove_alone ha, Res.bind, first, Res.bind]
    exact drained

theorem drainAll_ram (ha : s.between = []) (hb : ∀ e ∈ s.wbuf, ∃ key, BackedBy s e.1 key .ram) :
    ∃ m, drainAll s = .ok () { s with wbuf := [], mem := m } := drainTimes_ram s.wbuf rfl ha hb

/-- R142: one buffered store to RAM writes its bytes. -/
theorem drainAll_one (hw : s.wbuf = [(a, bs)]) (ha : s.between = []) (hb : BackedBy s a key .ram) :
    drainAll s = .ok () (({ s with wbuf := [] } : State).setMemBytes key bs) := by
  rw [drainAll, hw, List.length_singleton, drainTimes, agentsMove_alone ha, Res.bind, drainOne_ram hw hb, Res.bind, drainTimes]

theorem execSync_eq {t : State} (stype : BitVec 5) (h : drainAll s = .ok () t) :
    exec (.sync stype) s = .next t.retire := by
  show execSync stype s = _
  rw [execSync, h, Res.out, done]

/-! ### Aligned loads -/

theorem load_next (h : LoadsFrom (effAddr base off s) n key s pa) (ext : Word → Word) :
    Next (load rt base off n ext s) (Wrote rt (ext (s.value (s.memBytes key n))) s) := by
  rw [load, memRead_plain h, Res.out]
  exact writeResult_next _ _ _

/-- R351 to R354: the low bits of the value on the bus are the number of the cells. -/
theorem value_low (s : State) (key : Nat) {n : Nat} (hn : n ≤ 4) :
    (s.value (s.memBytes key n)).extractLsb' 0 (8 * n) = BitVec.ofNat (8 * n) (cellsNat s key n) := by
  apply BitVec.eq_of_toNat_eq
  rw [BitVec.extractLsb'_toNat, Nat.shiftRight_zero, s.value_memBytes_toNat key n hn, BitVec.toNat_ofNat]

theorem cellsNat_one (s : State) (key : Nat) : cellsNat s key 1 = (s.memByte key).toNat := by
  unfold cellsNat State.memBytes bytesNat
  cases s.params.bigEndian <;> simp [State.memBytes, bytesNat]

/-- R351, R353: the sign-extended load. -/
theorem load_signed (h : LoadsFrom (effAddr base off s) n key s pa) (hn : n ≤ 4) :
    ∃ v, Next (load rt base off n (fun v => (v.extractLsb' 0 (8 * n)).signExtend 32) s) (Wrote rt v s) ∧
      v.toInt = (BitVec.ofNat (8 * n) (cellsNat s key n)).toInt :=
  ⟨_, load_next h _, by rw [BitVec.toInt_signExtend_of_le (by omega), value_low s key hn]⟩

/-- R352, R354: the zero-extended load. -/
theorem load_unsigned (h : LoadsFrom (effAddr base off s) n key s pa) (hn : n ≤ 4) :
    ∃ v, Next (load rt base off n (fun v => (v.extractLsb' 0 (8 * n)).setWidth 32) s) (Wrote rt v s) ∧
      v.toNat = cellsNat s key n := by
  refine ⟨_, load_next h _, ?_⟩
  rw [BitVec.toNat_setWidth_of_le (by omega), value_low s key hn, BitVec.toNat_ofNat, ← pow256_eq]
  exact Nat.mod_eq_of_lt (cellsNat_lt s key n)

/-! ### Aligned stores -/

theorem Buffered.retired (s : State) (a : Nat) (bs : List Byte) :
    Buffered a bs s ({ s with wbuf := s.wbuf ++ [(a, bs)] } : State).retire :=
  ⟨⟨rfl, rfl, rfl⟩, fun _ => rfl, rfl⟩

theorem store_buffered (h : StoresTo (effAddr base off s) n s pa) :
    ∃ bs, bs.length = n ∧ bytesNat s.params.bigEndian bs = (s.reg rt).toNat % 256 ^ n ∧
      Next (store rt base off n s) (Buffered ((plainLanes s (effAddr base off s) n).addr pa) bs s) := by
  refine ⟨_, s.bytes_length n (s.reg rt), s.bytes_number n (s.reg rt), ?_⟩
  rw [store, memWrite_plain _ h, Res.out]
  exact ⟨_, rfl, .retired s _ _⟩

/-! ### Linked accesses -/

theorem execLl_next (h : LoadsFrom (effAddr base off s) 4 key s pa) :
    Next (exec (.ll rt base off) s) (Wrote rt (s.value (s.memBytes key 4))
      { s with cp0 := { s.cp0 with llAddr := pa >>> 4 }, llBit := true }) := by
  show Next (execLl rt base off s) _
  rw [execLl, memReadPa_plain h, Res.out]
  exact writeResult_next _ _ _

theorem checkStore_plain (h : StoresTo va 4 s pa) : checkStore va s = .ok () s := by
  obtain ⟨c, _, plain⟩ := h.plain
  simp [checkStore, h.aligned, plain.notDseg, plain.translated, Res.bind]

/-- R381: with LLbit set SC stores. -/
theorem execSc_linked (h : StoresTo (effAddr base off s) 4 s pa) (hl : s.llBit = true) :
    Next (exec (.sc rt base off) s) (Wrote rt 1
      { s with wbuf := s.wbuf ++ [((plainLanes s (effAddr base off s) 4).addr pa, s.bytes 4 (s.reg rt))] }) := by
  show Next (execSc rt base off s) _
  simp only [execSc, hl, if_true, memWrite_plain _ h, Res.out]
  exact writeResult_next _ _ _

theorem execSc_unlinked (h : StoresTo (effAddr base off s) 4 s pa) (hl : s.llBit = false) :
    Next (exec (.sc rt base off) s) (Wrote rt 0 s) := by
  show Next (execSc rt base off s) _
  simp only [execSc, hl, Bool.false_eq_true, if_false, checkStore_plain h, Res.out]
  exact writeResult_next _ _ _

/-! ### Unaligned words (R365) -/

/-- R365: the byte index is the number that the rule gives. -/
theorem byteIndex_eq (va : Word) (s : State) :
    byteIndex va s = if s.bigEndianCPU then 3 - va.toNat % 4 else va.toNat % 4 := by
  rw [byteIndex, field, BitVec.extractLsb'_toNat, Nat.shiftRight_zero]

theorem byteIndex_le (va : Word) (s : State) : byteIndex va s ≤ 3 := by
  rw [byteIndex_eq]
  split <;> omega

theorem WordAround.lanes {k : Kind} (h : WordAround k va pa key s) (hn : 0 < n) (hfits : sh + n ≤ 4) :
    BackedBy s ((valueLanes s sh n).addr pa) (key + (valueLanes s sh n).lo) .ram := by
  have fits := valueLanes_lo_le (s := s) hfits
  exact h.backed _ (by omega)

/-- R366, R367: the value that reaches the register is the part of the word that the lanes hold. -/
theorem readLanes_word (h : WordAround .load va pa key s) (hw : s.wbuf = []) (hn : 0 < n) (hfits : sh + n ≤ 4) :
    ∃ v, readLanes va (valueLanes s sh n) s = .ok (v, pa) s ∧ v.toNat = cellsNat s key 4 / 256 ^ sh % 256 ^ n :=
  ⟨_, readLanes_plain _ h.plain hw h.alone (h.lanes hn hfits),
    (s.value_memBytes_toNat _ n (by omega)).trans (cellsNat_lanes_read s key hfits)⟩

theorem execLwl_next (h : WordAround .load (effAddr base off s) pa key s) (hw : s.wbuf = []) :
    let k := byteIndex (effAddr base off s) s
    ∃ v, Next (exec (.lwl rt base off) s) (Wrote rt v s) ∧
      v.toNat = cellsNat s key 4 % 256 ^ (k + 1) * 256 ^ (3 - k) + (s.reg rt).toNat % 256 ^ (3 - k) := by
  intro k
  have hk : k ≤ 3 := byteIndex_le _ _
  obtain ⟨w, read, number⟩ := readLanes_word (sh := 0) (n := k + 1) h hw (by omega) (by omega)
  refine ⟨mergeLeft k w (s.reg rt), ?_, ?_⟩
  · show Next (execLwl rt base off s) _
    simp only [execLwl, leftLanes, read, Res.out, k]
    exact writeResult_next _ _ _
  · rw [mergeLeft_toNat k w _ hk, number, Nat.pow_zero, Nat.div_one, Nat.mod_mod]

theorem execLwr_next (h : WordAround .load (effAddr base off s) pa key s) (hw : s.wbuf = []) :
    let k := byteIndex (effAddr base off s) s
    ∃ v, Next (exec (.lwr rt base off) s) (Wrote rt v s) ∧
      v.toNat = (s.reg rt).toNat / 256 ^ (4 - k) * 256 ^ (4 - k) + cellsNat s key 4 / 256 ^ k := by
  intro k
  have hk : k ≤ 3 := byteIndex_le _ _
  obtain ⟨w, read, number⟩ := readLanes_word (sh := k) (n := 4 - k) h hw (by omega) (by omega)
  have short : cellsNat s key 4 / 256 ^ k < 256 ^ (4 - k) := by
    refine Nat.div_lt_of_lt_mul ?_
    rw [← Nat.pow_add, Nat.add_sub_cancel' (by omega)]
    exact cellsNat_lt s key 4
  refine ⟨mergeRight k w (s.reg rt), ?_, ?_⟩
  · show Next (execLwr rt base off s) _
    simp only [execLwr, rightLanes, read, Res.out, k]
    exact writeResult_next _ _ _
  · rw [mergeRight_toNat k w _ hk, number, Nat.mod_mod, Nat.mod_eq_of_lt short]

/-- A store of `n` bytes with the number `x` at offset `lo` of a word has completed: it is the one in the write buffer, and when it
leaves, the word at `key` is `w` and no other byte has changed. -/
def LanesStored (pa : Word) (key lo n x w : Nat) (s t : State) : Prop :=
  Advanced s t ∧ SameMemory s t ∧
    (∃ bs, bs.length = n ∧ bytesNat s.params.bigEndian bs = x ∧ t.wbuf = [(pa.toNat / 4 * 4 + lo, bs)]) ∧
    t = { s with wbuf := t.wbuf, pc := t.pc, pending := t.pending, inDelaySlot := t.inDelaySlot } ∧
    Next (drainAll t).toOut fun u => cellsNat u key 4 = w ∧ ∀ i, i < key ∨ key + 4 ≤ i → u.memByte i = s.memByte i

theorem SameAround.setMemBytes (s : State) (key : Nat) (l : Lanes) (hlen : bs.length = l.n) :
    SameAround key l s (s.setMemBytes (key + l.lo) bs) where
  order := by rw [State.setMemBytes_eq]
  below i hi := s.memByte_setMemBytes_out _ _ bs (by omega)
  above i hi _ := s.memByte_setMemBytes_out _ _ bs (by omega)

/-- R368, R369: what the bytes of a store make of the word. -/
theorem cellsNat_setMemBytes (s : State) (key : Nat) (hfits : sh + n ≤ 4) (hlen : bs.length = n) (hwf : Memory.wf s.mem = true) :
    cellsNat (s.setMemBytes (key + (valueLanes s sh n).lo) bs) key 4 =
      cellsNat s key 4 / 256 ^ (sh + n) * 256 ^ (sh + n) + bytesNat s.params.bigEndian bs * 256 ^ sh +
        cellsNat s key 4 % 256 ^ sh := by
  have same := SameAround.setMemBytes s key (valueLanes s sh n) hlen
  have lanes : cellsNat (s.setMemBytes (key + (valueLanes s sh n).lo) bs) (key + (valueLanes s sh n).lo) n =
      bytesNat s.params.bigEndian bs := by
    rw [cellsNat, same.order, ← hlen, s.memBytes_setMemBytes _ bs hwf]
  rw [cellsNat_lanes_written hfits same, lanes]

/-- When the bytes of a store leave for their lanes, they become digits of the word. -/
theorem drainAll_word (hw : s.wbuf = [(a, bs)]) (ha : s.between = [])
    (hb : BackedBy s a (key + (valueLanes s sh n).lo) .ram) (hfits : sh + n ≤ 4) (hlen : bs.length = n)
    (hwf : Memory.wf s.mem = true) :
    Next (drainAll s).toOut fun u =>
      cellsNat u key 4 = cellsNat s key 4 / 256 ^ (sh + n) * 256 ^ (sh + n) + bytesNat s.params.bigEndian bs * 256 ^ sh +
        cellsNat s key 4 % 256 ^ sh ∧
      ∀ i, i < key ∨ key + 4 ≤ i → u.memByte i = s.memByte i := by
  have fits := valueLanes_lo_le (s := s) hfits
  rw [drainAll_one hw ha hb, Res.toOut, Res.out]
  exact ⟨_, rfl, cellsNat_setMemBytes { s with wbuf := [] } key hfits hlen hwf,
    fun i hi => State.memByte_setMemBytes_out { s with wbuf := [] } _ i bs (by omega)⟩

theorem writeLanes_word (v : Word) (h : WordAround .store va pa key s) (hw : s.wbuf = []) (hwf : Memory.wf s.mem = true)
    (hn : 0 < n) (hfits : sh + n ≤ 4) :
    Next ((writeLanes va (valueLanes s sh n) v s).out fun _ s1 => done s1)
      (LanesStored pa key (valueLanes s sh n).lo n (v.toNat % 256 ^ n) (cellsNat s key 4 / 256 ^ (sh + n) * 256 ^ (sh + n) +
        v.toNat % 256 ^ n * 256 ^ sh + cellsNat s key 4 % 256 ^ sh) s) := by
  have room : s.wbuf.length < 16 := by rw [hw]; decide
  have hlen := s.bytes_length n v
  rw [writeLanes_plain _ v h.plain room, hw, Res.out]
  refine ⟨_, rfl, ⟨rfl, rfl, rfl⟩, fun _ => rfl, ⟨s.bytes n v, hlen, s.bytes_number n v, rfl⟩, rfl, ?_⟩
  rw [← s.bytes_number n v]
  exact drainAll_word rfl h.alone (h.lanes hn hfits) hfits hlen hwf

theorem execSwl_next (h : WordAround .store (effAddr base off s) pa key s) (hw : s.wbuf = []) (hwf : Memory.wf s.mem = true) :
    let k := byteIndex (effAddr base off s) s
    let x := (s.reg rt).toNat / 256 ^ (3 - k)
    Next (exec (.swl rt base off) s)
      (LanesStored pa key (if s.params.bigEndian then 3 - k else 0) (k + 1) x
        (cellsNat s key 4 / 256 ^ (k + 1) * 256 ^ (k + 1) + x) s) := by
  intro k x
  have hk : k ≤ 3 := byteIndex_le _ _
  have number : (s.reg rt >>> (8 * (3 - k))).toNat % 256 ^ (k + 1) = x := by
    rw [ushiftRight_toNat, ← pow256_eq]
    refine Nat.mod_eq_of_lt (Nat.div_lt_of_lt_mul ?_)
    rw [← Nat.pow_add, show 3 - k + (k + 1) = 4 by omega]
    exact (s.reg rt).isLt
  have place : (valueLanes s 0 (k + 1)).lo = if s.params.bigEndian then 3 - k else 0 := by
    rw [valueLanes_lo, show 4 - (k + 1) - 0 = 3 - k by omega]
  have stored := writeLanes_word (sh := 0) (n := k + 1) (s.reg rt >>> (8 * (3 - k))) h hw hwf (by omega) (by omega)
  rw [number, place, Nat.zero_add, Nat.pow_zero, Nat.mul_one, Nat.mod_one, Nat.add_zero] at stored
  exact stored

theorem execSwr_next (h : WordAround .store (effAddr base off s) pa key s) (hw : s.wbuf = []) (hwf : Memory.wf s.mem = true) :
    let k := byteIndex (effAddr base off s) s
    let x := (s.reg rt).toNat % 256 ^ (4 - k)
    Next (exec (.swr rt base off) s)
      (LanesStored pa key (if s.params.bigEndian then 0 else k) (4 - k) x (x * 256 ^ k + cellsNat s key 4 % 256 ^ k) s) := by
  intro k x
  have hk : k ≤ 3 := byteIndex_le _ _
  have place : (valueLanes s k (4 - k)).lo = if s.params.bigEndian then 0 else k := by
    rw [valueLanes_lo, show 4 - (4 - k) - k = 0 by omega]
  have stored := writeLanes_word (sh := k) (n := 4 - k) (s.reg rt) h hw hwf (by omega) (by omega)
  rw [place, Nat.add_sub_cancel' (by omega), Nat.div_eq_of_lt (cellsNat_lt s key 4), Nat.zero_mul, Nat.zero_add] at stored
  exact stored

end

/-! ### The statements -/

/-- Settles O18: each store leaves into cells of RAM, by induction over the buffer. -/
theorem syncDrains : Obligations.SyncDrains := by
  refine fun s stype ha => ⟨fun hb => ?all, fun pa bs key hw hb hwf => ?one⟩
  case all =>
    obtain ⟨m, drained⟩ := drainAll_ram ha hb
    exact ⟨_, execSync_eq stype drained, ⟨rfl, rfl, rfl⟩, rfl, rfl⟩
  case one =>
    refine ⟨_, execSync_eq stype (drainAll_one hw ha hb), fun i hi => ?_, fun k hk => ?_⟩
    · exact State.memByte_setMemBytes_in { s with wbuf := [] } key i bs hwf hi
    · exact State.memByte_setMemBytes_out { s with wbuf := [] } key k bs hk

/-- Settles O19: the lanes that are read are digits of the word, and the merge puts them beside digits of `rt`. -/
theorem unalignedLoads : Obligations.UnalignedLoads := by
  intro s rt base off pa key h hw b k w r
  rw [show k = byteIndex (effAddr base off s) s from (byteIndex_eq _ s).symm]
  exact ⟨execLwl_next h hw, execLwr_next h hw⟩

/-- Settles O20: the store replaces the digits of its lanes when it leaves the write buffer. -/
theorem unalignedStores : Obligations.UnalignedStores := by
  intro s rt base off pa key h hw hwf b k w r leaves
  rw [show k = byteIndex (effAddr base off s) s from (byteIndex_eq _ s).symm]
  exact ⟨execSwl_next h hw hwf, execSwr_next h hw hwf⟩

/-- Settles O15: each load extends the value of the cells. -/
theorem alignedLoads : Obligations.AlignedLoads := by
  refine fun s rt base off pa key => ⟨fun h => ⟨?lb, ?lbu⟩, fun h => ⟨load_signed h (by decide), load_unsigned h (by decide)⟩,
    fun h => ⟨_, load_next h id, s.value_memBytes_toNat key 4 le_rfl⟩⟩
  case lb =>
    obtain ⟨v, wrote, number⟩ := load_signed (rt := rt) h (by decide)
    refine ⟨v, wrote, number.trans ?_⟩
    rw [cellsNat_one, BitVec.ofNat_toNat, BitVec.setWidth_eq]
  case lbu =>
    obtain ⟨v, wrote, number⟩ := load_unsigned (rt := rt) h (by decide)
    exact ⟨v, wrote, number.trans (cellsNat_one s key)⟩

/-- Settles O16: the bytes of the store are the low digits of `rt`. -/
theorem alignedStores : Obligations.AlignedStores := fun _ _ _ _ _ => ⟨store_buffered, store_buffered, store_buffered⟩

/-- Settles O17: LL is a load that sets the link, and SC a store that LLbit permits. -/
theorem linkedAccesses : Obligations.LinkedAccesses := by
  refine fun s rt base off pa => ⟨fun key h => ⟨_, s.value_memBytes_toNat key 4 le_rfl, ?ll⟩,
    fun h => ⟨fun hl => ⟨_, s.bytes_length 4 _, s.bytes_word _, execSc_linked h hl⟩, execSc_unlinked h⟩⟩
  have link : BitVec.ofNat 32 (pa.toNat / 16) = pa >>> 4 := by
    rw [← BitVec.toNat_inj, ushiftRight_toNat, BitVec.toNat_ofNat]
    exact Nat.mod_eq_of_lt ((Nat.div_le_self _ _).trans_lt pa.isLt)
  rw [link]
  exact execLl_next h

end Sys2Proof.Machine
end

section
/-! SUPPORT. CACHE and SYNCI at unmapped addresses (44_loadstore.md R386, R388): what each operation does to one line, or to TagLo
and DataLo. -/

namespace Sys2Proof.Machine

section

variable {s t : State} {ea : Word} {op : BitVec 5} {base : Reg} {off : Imm16} {l : CacheLine} {k pa : Nat}

/-! ### Unmapped addresses -/

/-- An address below a segment has other upper bits than the segment. -/
theorem extractLsb'_ne_of_lt {lo len n : Nat} (hn : n < 2 ^ len) (h : ea.toNat < n * 2 ^ lo) :
    ea.extractLsb' lo len ≠ BitVec.ofNat len n := fun e => by
  have upper := congrArg BitVec.toNat e
  have below : ea.toNat / 2 ^ lo < n := (Nat.div_lt_iff_lt_mul (by positivity)).2 h
  rw [BitVec.extractLsb'_toNat, Nat.shiftRight_eq_div_pow, BitVec.toNat_ofNat, Nat.mod_eq_of_lt hn,
    Nat.mod_eq_of_lt (below.trans hn)] at upper
  omega

/-- R109: dseg lies above the unmapped segments. -/
theorem inDseg_below (h : ea.toNat < 0xC0000000) : inDseg ea s = false := by
  have dmseg : ea.extractLsb' 21 11 ≠ 0x7F9#11 := extractLsb'_ne_of_lt (by decide) (by omega)
  have extended : ea.extractLsb' 24 8 ≠ 0xFF#8 := extractLsb'_ne_of_lt (by decide) (by omega)
  simp [inDseg, dmseg, extended]

theorem inDseg_kseg0 (h : inKseg0 ea = true) : inDseg ea s = false := by
  obtain ⟨_, below⟩ := inKseg0_iff.1 h
  exact inDseg_below (by omega)

theorem inDseg_kseg1 (h : inKseg1 ea = true) : inDseg ea s = false := inDseg_below (inKseg1_iff.1 h).2

theorem inKseg0_of_inKseg1 (h : inKseg1 ea = true) : inKseg0 ea = false := by
  obtain ⟨above, _⟩ := inKseg1_iff.1 h
  rw [← Bool.not_eq_true, inKseg0_iff]
  omega

/-- R105: the physical address of an unmapped one is its low 29 bits. -/
theorem unmapped_toNat (ea : Word) : (ea &&& 0x1FFFFFFF).toNat = ea.toNat % 2 ^ 29 := by
  rw [BitVec.toNat_and]
  exact Nat.and_two_pow_sub_one_eq_mod ea.toNat 29

/-! ### One line changes -/

theorem State.iline_setIline (s : State) (k : Nat) (l : CacheLine) (h : Sparse.wf lineDefault s.icache = true) (j : Nat) :
    (s.setIline k l).iline j = if j = k then l else s.iline j := by
  split
  next hj => subst hj; exact Sparse.get_set_self lineDefault _ _ _ h
  next hj => exact Sparse.get_set_ne lineDefault _ _ hj

/-- An instruction completed that makes `l` of the instruction cache line under `k`, and changes nothing else. -/
def ILineChanged (k : Nat) (l : CacheLine) (s t : State) : Prop :=
  Advanced s t ∧ t.iline k = l ∧ (∀ j, j ≠ k → t.iline j = s.iline j) ∧
    t = { s with icache := t.icache, pc := t.pc, pending := t.pending, inDelaySlot := t.inDelaySlot }

/-- An instruction completed that makes `l` of the data cache line under `k`, and changes nothing else. -/
def DLineChanged (k : Nat) (l : CacheLine) (s t : State) : Prop :=
  Advanced s t ∧ t.dline k = l ∧ (∀ j, j ≠ k → t.dline j = s.dline j) ∧
    t = { s with dcache := t.dcache, pc := t.pc, pending := t.pending, inDelaySlot := t.inDelaySlot }

theorem ILineChanged.retired (h : Sparse.wf lineDefault s.icache = true) : ILineChanged k l s (s.setIline k l).retire :=
  ⟨⟨rfl, rfl, rfl⟩, (s.iline_setIline k l h k).trans (if_pos rfl), fun j hj => (s.iline_setIline k l h j).trans (if_neg hj), rfl⟩

theorem DLineChanged.retired (h : Sparse.wf lineDefault s.dcache = true) : DLineChanged k l s (s.setDline k l).retire :=
  ⟨⟨rfl, rfl, rfl⟩, (s.dline_setDline k l h k).trans (if_pos rfl), fun j hj => (s.dline_setDline k l h j).trans (if_neg hj), rfl⟩

/-! ### Index Load Tag (R60, R388) -/

theorem bit_tag (tag : BitVec 22) (i : Nat) :
    bit (tag ++ 0#10) i = if i < 10 then false else tag.getLsbD (i - 10) := by
  rw [bit, BitVec.getLsbD_append, BitVec.getLsbD_zero]

theorem bit_flag (b : Bool) {i : Nat} (hi : i < 32) (j : Nat) : bit (flag b j) i = (b && decide (i = j)) := by
  cases b with
  | true => rw [flag, if_pos rfl, bit_one hi, Bool.true_and]
  | false => simp [flag, bit]

/-- R60: TagLo shows tag, L and V of a clean line. -/
theorem bit_tagLoOf (l : CacheLine) {i : Nat} (hi : i < 32) : bit (tagLoOf l 0) i =
    ((if i < 10 then false else l.tag.getLsbD (i - 10)) || l.lock && decide (i = 1) || l.valid && decide (i = 0)) := by
  have zero : l.tag ++ 0#10 ||| 0 = l.tag ++ 0#10 := BitVec.or_zero
  rw [tagLoOf, bit_or, bit_or, bit_flag _ hi, bit_flag _ hi, zero, bit_tag]

theorem tagLoOf_tag (l : CacheLine) : field (tagLoOf l 0) 10 22 = l.tag.toNat := by
  refine congrArg BitVec.toNat (BitVec.eq_of_getLsbD_eq fun i hi => ?_)
  have tag := bit_tagLoOf l (i := 10 + i) (by omega)
  rw [BitVec.getLsbD_extractLsb', decide_eq_true hi, Bool.true_and]
  refine tag.trans ?_
  rw [if_neg (by omega), Nat.add_sub_cancel_left, decide_eq_false (by omega), decide_eq_false (by omega)]
  simp

theorem tagLoOf_lock (l : CacheLine) : bit (tagLoOf l 0) 1 = l.lock := by
  rw [bit_tagLoOf l (by decide)]
  simp

theorem tagLoOf_valid (l : CacheLine) : bit (tagLoOf l 0) 0 = l.valid := by
  rw [bit_tagLoOf l (by decide)]
  simp

theorem lineWord_toNat (l : CacheLine) (ea : Word) (s : State) :
    (lineWord l ea s).toNat = bytesNat s.params.bigEndian (l.read (ea.toNat % 32 / 4 * 4) 4) :=
  s.value_toNat _ (CacheLine.read_length _ _ _).le

/-! ### CACHE (R388) -/

theorem onHit_some (f : Nat → State → Res Unit) (s : State) : onHit (some k) f s = f k s := rfl
theorem onHit_none (f : Nat → State → Res Unit) (s : State) : onHit none f s = .ok () s := rfl

theorem cacheEffect_iIndexInvalidate :
    cacheEffect 0x00 ea pa s = .ok () (iInvalidate (indexKey s.params.icache ea) s) := rfl
theorem cacheEffect_iLoadTag :
    cacheEffect 0x04 ea pa s = .ok () (loadTag (s.iline (indexKey s.params.icache ea)) 0 ea s) := rfl
theorem cacheEffect_iStoreTag : cacheEffect 0x08 ea pa s =
    .ok () (s.setIline (indexKey s.params.icache ea) (storeTag (s.iline (indexKey s.params.icache ea)) s.cp0.tagLo)) := rfl
theorem cacheEffect_dStoreTag : cacheEffect 0x09 ea pa s =
    .ok () (s.setDline (indexKey s.params.dcache ea) (storeTag (s.dline (indexKey s.params.dcache ea)) s.cp0.tagLo)) := rfl

theorem cacheEffect_iHit (h : iHit pa s = some k) : cacheEffect 0x10 ea pa s = .ok () (iInvalidate k s) :=
  (congrArg (fun hit => onHit hit (fun k s1 => .ok () (iInvalidate k s1)) s) h :)
theorem cacheEffect_iMiss (h : iHit pa s = none) : cacheEffect 0x10 ea pa s = .ok () s :=
  (congrArg (fun hit => onHit hit (fun k s1 => .ok () (iInvalidate k s1)) s) h :)
theorem cacheEffect_dHit (h : dHit pa s = some k) : cacheEffect 0x11 ea pa s = .ok () (dInvalidate k s) :=
  (congrArg (fun hit => onHit hit (fun k s1 => .ok () (dInvalidate k s1)) s) h :)
theorem cacheEffect_dMiss (h : dHit pa s = none) : cacheEffect 0x11 ea pa s = .ok () s :=
  (congrArg (fun hit => onHit hit (fun k s1 => .ok () (dInvalidate k s1)) s) h :)

/-- At a kseg0 address CACHE is its operation on the address without its segment. -/
theorem execCache_kseg0 (hcp0 : s.cp0Usable = true) (hu : s.userMode = false) (h0 : inKseg0 (effAddr base off s) = true)
    (hop : cacheOpKnown op = true)
    (h : cacheEffect op (effAddr base off s) ((effAddr base off s).toNat % 2 ^ 29) s = .ok () t) :
    exec (.cache op base off) s = .next t.retire := by
  show execCache op base off s = _
  simp only [execCache, privileged_usable hcp0, hop, inDseg_kseg0 h0, translate_kseg0 hu h0, unmapped_toNat, Res.bind, h]
  rfl

/-- D16: a reserved operation does nothing. -/
theorem execCache_reserved (hcp0 : s.cp0Usable = true) (hop : cacheOpKnown op = false) :
    exec (.cache op base off) s = done s := by
  show execCache op base off s = _
  simp [execCache, privileged_usable hcp0, hop]

theorem cacheOpKnown_eq_false
    (h : op.toNat ∉ [0x00, 0x04, 0x08, 0x10, 0x14, 0x1C, 0x01, 0x05, 0x09, 0x11, 0x15, 0x19, 0x1D]) :
    cacheOpKnown op = false := by
  rwa [cacheOpKnown, ← Bool.not_eq_true, List.contains_iff_mem]

/-! ### SYNCI (R386) -/

theorem execSynci_kseg1 (hu : s.userMode = false) (h1 : inKseg1 (effAddr base off s) = true) :
    exec (.synci base off) s = done s := by
  show execSynci base off s = _
  simp [execSynci, inDseg_kseg1 h1, translate_kseg1 hu (inKseg0_of_inKseg1 h1) h1, Res.bind, uncached, Res.out]

theorem execSynci_kseg0 (hu : s.userMode = false) (h0 : inKseg0 (effAddr base off s) = true) (hc : uncached s.cp0.k0 = false)
    (h : synciEffect ((effAddr base off s).toNat % 2 ^ 29) s = .ok () t) : exec (.synci base off) s = .next t.retire := by
  show execSynci base off s = _
  simp only [execSynci, inDseg_kseg0 h0, translate_kseg0 hu h0, unmapped_toNat, Res.bind, hc, h]
  rfl

/-- Where the data cache does not hold the address, SYNCI works on the instruction cache alone. -/
theorem synciEffect_dMiss (hd : dHit pa s = none) :
    synciEffect pa s = onHit (iHit pa s) (fun k s1 => .ok () (iInvalidate k s1)) s := by
  rw [synciEffect, hd, onHit_none, Res.bind]

end

/-! ### The statements -/

/-- Settles O24: at kseg0 each operation is its clause of `cacheEffect`. -/
theorem cacheOperations : Obligations.CacheOperations := by
  intro s base off ea pa ik dk iOnly dOnly fromTagLo hcp0 hu h0 hi hd
  have run {op : BitVec 5} {t : State} (hop : cacheOpKnown op = true) (h : cacheEffect op ea pa s = .ok () t) :
      exec (.cache op base off) s = .next t.retire := execCache_kseg0 hcp0 hu h0 hop h
  refine ⟨⟨_, run rfl cacheEffect_iIndexInvalidate, ILineChanged.retired hi⟩,
    ⟨_, run rfl cacheEffect_iStoreTag, ILineChanged.retired hi⟩, ⟨_, run rfl cacheEffect_dStoreTag, DLineChanged.retired hd⟩,
    fun k hit => ⟨_, run rfl (cacheEffect_iHit hit), ILineChanged.retired hi⟩,
    fun k hit => ⟨_, run rfl (cacheEffect_dHit hit), DLineChanged.retired hd⟩,
    fun miss => ?iMiss, fun miss => ?dMiss, ?loadTag, fun op hop => ?reserved⟩
  case iMiss =>
    rw [run rfl (cacheEffect_iMiss miss)]
    exact done_next s
  case dMiss =>
    rw [run rfl (cacheEffect_dMiss miss)]
    exact done_next s
  case loadTag =>
    exact ⟨_, run rfl cacheEffect_iLoadTag, tagLoOf_tag _, tagLoOf_lock _, tagLoOf_valid _, lineWord_toNat _ ea s,
      ⟨rfl, rfl, rfl⟩, rfl⟩
  case reserved =>
    rw [execCache_reserved hcp0 (cacheOpKnown_eq_false hop)]
    exact done_next s

/-- Settles O25: SYNCI at kseg1 has nothing to do, and at kseg0 the instruction cache decides. -/
theorem synciAndPref : Obligations.SynciAndPref := by
  refine fun s hint base off => ⟨rfl, done_next s, fun hu => ⟨fun h1 => ?kseg1, fun h0 hc miss hwf => ?kseg0⟩⟩
  case kseg1 =>
    rw [execSynci_kseg1 hu h1]
    exact done_next s
  case kseg0 =>
    have effect := synciEffect_dMiss miss
    cases hit : iHit ((effAddr base off s).toNat % 2 ^ 29) s with
    | none =>
      rw [hit, onHit_none] at effect
      exact ⟨_, execSynci_kseg0 hu h0 hc effect, ⟨rfl, rfl, rfl⟩, nofun, fun _ => rfl, rfl⟩
    | some k =>
      rw [hit, onHit_some] at effect
      obtain ⟨advanced, line, others, rest⟩ := ILineChanged.retired (l := { s.iline k with valid := false }) (k := k) hwf
      refine ⟨_, execSynci_kseg0 hu h0 hc effect, advanced, fun key e => ?_, nofun, rest⟩
      obtain rfl := Option.some.inj e
      exact ⟨line, others⟩

end Sys2Proof.Machine
end

section
/-! SUPPORT. The TLB instructions (45_trap_system.md R445 to R448): the overlap of two entries, the entry a write makes, probing,
reading, and the two writes; and the invariant that no two entries overlap. -/

namespace Sys2Proof.Machine

section

variable {s t : State} {i j : Nat}

/-! ### When two entries overlap (R447) -/

theorem TlbEntry.overlaps_iff (a b : TlbEntry) : a.overlaps b = true ↔
    (∀ i, i < 19 → ¬(i < 12 ∧ (a.mask.getLsbD i = true ∨ b.mask.getLsbD i = true)) → a.vpn2.getLsbD i = b.vpn2.getLsbD i) ∧
      (a.g = true ∨ b.g = true ∨ a.asid = b.asid) := by
  have compared : ∀ i, (a.mask ||| b.mask).getLsbD i = false ↔
      ¬(i < 12 ∧ (a.mask.getLsbD i = true ∨ b.mask.getLsbD i = true)) := by
    intro i
    have beyond : ¬i < 12 → a.mask.getLsbD i = false ∧ b.mask.getLsbD i = false := fun h =>
      ⟨BitVec.getLsbD_of_ge _ _ (by omega), BitVec.getLsbD_of_ge _ _ (by omega)⟩
    rw [BitVec.getLsbD_or]
    by_cases h : i < 12
    · simp [h]
    · simp [h, beyond h]
  simp only [TlbEntry.overlaps, Bool.and_eq_true, beq_iff_eq, and_vpnMask_eq_iff, compared, Bool.or_eq_true, or_assoc]

theorem TlbEntry.overlaps_comm (a b : TlbEntry) : a.overlaps b = b.overlaps a := by
  rw [Bool.eq_iff_iff, TlbEntry.overlaps_iff, TlbEntry.overlaps_iff]
  refine and_congr (forall₂_congr fun i _ => imp_congr (by rw [or_comm]) eq_comm) ?_
  rw [or_left_comm, eq_comm (a := a.asid)]

/-- Log entry 2: the reset entries have page numbers of their own, and no mask. -/
theorem TlbEntry.resetEntry_apart (hi : i < 32) (hj : j < 32) (hne : i ≠ j) :
    (TlbEntry.resetEntry i).overlaps (TlbEntry.resetEntry j) = false := by
  rw [← Bool.not_eq_true, TlbEntry.overlaps_iff]
  rintro ⟨agree, -⟩
  have same : BitVec.ofNat 19 (0x40000 + i) = BitVec.ofNat 19 (0x40000 + j) :=
    BitVec.eq_of_getLsbD_eq fun b hb => agree b hb (by simp [TlbEntry.resetEntry])
  rw [← BitVec.toNat_inj, BitVec.toNat_ofNat, BitVec.toNat_ofNat] at same
  omega

/-! ### Reading and writing entries -/

theorem tlbSize_le (p : Params) : Params.tlbSize p ≤ 32 := lastIndex_lt p

theorem State.tlbAt_setTlb (s : State) (i : Nat) (e : TlbEntry) (j : Nat) :
    (s.setTlb i e).tlbAt j = if i % 32 = j % 32 then e else s.tlbAt j :=
  Vector.getElem_set (Nat.mod_lt i (by decide)) (Nat.mod_lt j (by decide))

theorem tlbConflict_iff {e : TlbEntry} : tlbConflict s i e = true ↔
    ∃ j, j < Params.tlbSize s.params ∧ j ≠ i ∧ e.overlaps (s.tlbAt j) = true := by
  simp [tlbConflict]

/-! ### No two entries overlap (R447, R492) -/

theorem TlbOk.of_eq (h : TlbOk s) (ht : t.tlb = s.tlb) (hp : t.params = s.params) : TlbOk t := by
  unfold TlbOk State.tlbAt at *
  rwa [ht, hp]

/-- R447: a write that the overlap test lets through adds no overlap. -/
theorem TlbOk.setTlb {e : TlbEntry} (h : TlbOk s) (hc : tlbConflict s i e = false) : TlbOk (s.setTlb i e) := by
  have apart : ∀ j, j < Params.tlbSize s.params → j ≠ i → e.overlaps (s.tlbAt j) = false := fun j hj hne => by
    rw [← Bool.not_eq_true] at hc ⊢
    exact fun ho => hc (tlbConflict_iff.2 ⟨j, hj, hne, ho⟩)
  have hsize := tlbSize_le s.params
  intro a b ha hb hne
  rw [State.setTlb_params] at ha hb
  rw [State.tlbAt_setTlb, State.tlbAt_setTlb]
  by_cases hia : i % 32 = a % 32
  · rw [if_pos hia, if_neg (by omega)]
    exact apart b hb (by omega)
  · rw [if_neg hia]
    by_cases hib : i % 32 = b % 32
    · rw [if_pos hib, TlbEntry.overlaps_comm]
      exact apart a ha (by omega)
    · rw [if_neg hib]
      exact h a b ha hb hne

theorem runtimeReset_tlb (c : ResetCause) (s : State) :
    (runtimeReset c s).tlb = Vector.ofFn fun i => TlbEntry.resetEntry i.val := congrArg CoreView.tlb (runtimeReset_view c s)

theorem runtimeReset_tlbAt (c : ResetCause) (s : State) (hi : i < 32) : (runtimeReset c s).tlbAt i = .resetEntry i := by
  simp [State.tlbAt, runtimeReset_tlb, Nat.mod_eq_of_lt hi]

theorem runtimeReset_tlbOk (c : ResetCause) (s : State) : TlbOk (runtimeReset c s) := by
  have hsize := tlbSize_le (runtimeReset c s).params
  intro i j hi hj hne
  rw [runtimeReset_tlbAt c s (by omega), runtimeReset_tlbAt c s (by omega)]
  exact TlbEntry.resetEntry_apart (by omega) (by omega) hne

theorem AccessStep.tlb (h : AccessStep s t) : t.tlb = s.tlb := congrArg CoreView.tlb h.core
theorem AccessStep.params (h : AccessStep s t) : t.params = s.params := congrArg CoreView.params h.core
theorem ControlStep.tlb (h : ControlStep s t) : t.tlb = s.tlb := (congrArg State.tlb h :)

theorem takeException_params (e : Exc) (s : State) : (takeException e s).params = s.params := by rw [takeException_rest]

theorem returnFromException_tlbOk (h : TlbOk s) : TlbOk (returnFromException s) := by
  unfold returnFromException
  split <;> exact h

theorem writeCp0_tlbOk {r : Option Cp0Reg} {v : Word} (h : TlbOk s) : TlbOk (writeCp0 r v s) := by
  cases r <;> exact h

theorem reportConflict_tlbOk (h : TlbOk s) : TlbOk (reportConflict s) := by
  unfold reportConflict
  split <;> exact h

/-- Only a TLB write and a reset change the TLB. -/
theorem Move.keeps_tlbOk (m : Move s t) (h : TlbOk s) : TlbOk t := by
  cases m with
  | access k => exact h.of_eq k.tlb k.params
  | control k => exact h.of_eq k.tlb k.params
  | writeReg _ rd v => exact h.of_eq (s.setReg_tlb rd v) (s.setReg_params rd v)
  | exception e => exact h.of_eq (takeException_tlb e s) (takeException_params e s)
  | eret => exact returnFromException_tlbOk h
  | mtc0 r v => exact writeCp0_tlbOk h
  | conflict => exact reportConflict_tlbOk h
  | tlbWrite _ i hc => exact h.setTlb hc
  | reset c => exact runtimeReset_tlbOk c s
  | debugEntry | debugReenter | nmi | deret | link | setIe | random | tlbp | tlbr => exact h

end

/-- Settles O54: every move of a step keeps the TLB free of overlaps. -/
theorem tlbKept : Obligations.TlbKept := fun s _ h hstep =>
  ((step_reaches s).moves hstep).keeps (fun _ _ => Move.keeps_tlbOk) h

end Sys2Proof.Machine
end

section
/-! SUPPORT. The TLB instructions where coprocessor 0 is usable (45_trap_system.md R445 to R448): what a probe finds, the fields of
an entry that is read, and what a write does. -/

namespace Sys2Proof.Machine

section

variable {s : State} {k : Out}

/-- R451: without coprocessor 0 an instruction that asks for it does nothing else than raise CpU 0. -/
theorem privileged_unusable (h : s.cp0Usable = false) : privileged s k = .next (takeException (.cpu 0) s) := if_neg (by simp [h])

end

/-! ### Probing (R445) -/

section

variable {s : State} {i : Nat}

/-- The match of an entry with an address, by the bits of the page number. -/
theorem TlbEntry.hits_iff_vpn2 {e : TlbEntry} {va : Word} {asid : BitVec 8} : e.hits (vpn2Of va) asid = true ↔
    (∀ b, b < 19 → ¬(b < 12 ∧ e.mask.getLsbD b = true) → e.vpn2.getLsbD b = bit va (13 + b)) ∧
      (e.g = true ∨ e.asid = asid) := by
  refine TlbEntry.hits_iff.trans (and_congr_left' ⟨fun h b hb hm => ?_, fun h b hlo hhi hm => ?_⟩)
  · have agree := h (13 + b) (by omega) (by omega)
    rw [Nat.add_sub_cancel_left] at agree
    exact agree fun hbit => hm ⟨by omega, hbit.2⟩
  · have agree := h (b - 13) (by omega) fun hbit => hm ⟨by omega, hbit.2⟩
    rwa [Nat.add_sub_cancel' hlo] at agree

theorem probeIndex_none (h : ∀ i, ¬s.tlbHit s.cp0.entryHi i) : probeIndex s = none :=
  foldl_last_none (p := fun i => (s.tlbAt i).hits (vpn2Of s.cp0.entryHi) s.asid)
    (fun i hi => Bool.eq_false_iff.2 fun hit => h i ⟨List.mem_range.1 hi, hit⟩) none

theorem probeIndex_some (h : s.tlbHit s.cp0.entryHi i) (hlast : ∀ j, s.tlbHit s.cp0.entryHi j → j ≤ i) :
    probeIndex s = some i := by
  obtain ⟨hlt, hit⟩ := h
  have hi : i < (List.range (Params.tlbSize s.params)).length := by rwa [List.length_range]
  have found := foldl_last_some (p := fun i => (s.tlbAt i).hits (vpn2Of s.cp0.entryHi) s.asid) hi
    (by rwa [List.getElem_range]) fun j hj hp => by
      rw [List.getElem_range] at hp
      rw [List.length_range] at hj
      exact hlast j ⟨hj, hp⟩
  rwa [List.getElem_range] at found

end

/-- Settles O38: the probe keeps the last entry that it finds. -/
theorem tlbProbe : Obligations.TlbProbe := by
  refine ⟨rfl, fun s hu => privileged_unusable hu, fun s hu => ?_⟩
  intro hit
  have hit_iff : ∀ i, hit i ↔ s.tlbHit s.cp0.entryHi i := fun i => and_congr_right' TlbEntry.hits_iff_vpn2.symm
  simp only [hit_iff]
  refine ⟨_, privileged_usable hu, fun i hi hlast => ?_, fun hnone => ?_, ⟨rfl, rfl, rfl⟩, rfl⟩
  · have index : probedIndex s = BitVec.ofNat 32 i := by rw [probedIndex, probeIndex_some hi hlast]
    have hlt : i < Params.tlbSize s.params := hi.1
    exact (congrArg BitVec.toNat index).trans (toNat_ofNat_index (hlt.trans_le (tlbSize_le _)))
  · have index : probedIndex s = s.cp0.index ||| one 31 := by rw [probedIndex, probeIndex_none hnone]
    exact index

/-! ### Reading an entry (R446) -/

section

variable (p : Page) (g : Bool)

theorem bit_entryLo {i : Nat} (hi : i < 32) : bit (entryLo p g) i =
    ((if i < 3 then false else if i < 6 then p.c.getLsbD (i - 3) else p.pfn.getLsbD (i - 6)) || p.d && decide (i = 2) ||
      p.v && decide (i = 1) || g && decide (i = 0)) := by
  have fields : bit (0#6 ++ p.pfn ++ p.c ++ 0#3) i =
      if i < 3 then false else if i < 6 then p.c.getLsbD (i - 3) else p.pfn.getLsbD (i - 6) := by
    rw [bit, BitVec.getLsbD_append, BitVec.getLsbD_append, BitVec.getLsbD_append]
    simp only [BitVec.getLsbD_zero]
    grind
  rw [entryLo, bit_or, bit_or, bit_or, bit_flag _ hi, bit_flag _ hi, bit_flag _ hi, fields]

/-- A field of EntryLo above its three flags. -/
theorem extract_entryLo {n : Nat} {x : BitVec n} (lo : Nat) (hlo : 3 ≤ lo) (hn : lo + n ≤ 32)
    (h : ∀ i < n, x.getLsbD i = if lo + i < 6 then p.c.getLsbD (lo + i - 3) else p.pfn.getLsbD (lo + i - 6)) :
    (entryLo p g).extractLsb' lo n = x := by
  refine BitVec.eq_of_getLsbD_eq fun i hi => ?_
  rw [BitVec.getLsbD_extractLsb', decide_eq_true hi, Bool.true_and, h i hi]
  refine (bit_entryLo p g (by omega)).trans ?_
  simp [show ¬lo + i < 3 by omega, show lo + i ≠ 2 by omega, show lo + i ≠ 1 by omega, show lo ≠ 0 by omega]

/-- R31: the fields of EntryLo that TLBR fills. -/
theorem entryLo_fields :
    (entryLo p g).extractLsb' 6 20 = p.pfn ∧ (entryLo p g).extractLsb' 3 3 = p.c ∧ bit (entryLo p g) 2 = p.d ∧
      bit (entryLo p g) 1 = p.v ∧ bit (entryLo p g) 0 = g ∧ (entryLo p g).extractLsb' 26 6 = 0 := by
  refine ⟨extract_entryLo p g 6 (by omega) (by omega) fun i hi => ?_,
    extract_entryLo p g 3 (by omega) (by omega) fun i hi => ?_, ?_, ?_, ?_,
    extract_entryLo p g 26 (by omega) (by omega) fun i hi => ?_⟩
  · simp
  · simp [show 3 + i < 6 by omega]
  · simp [bit_entryLo]
  · simp [bit_entryLo]
  · simp [bit_entryLo]
  · rw [if_neg (by omega), BitVec.getLsbD_of_ge p.pfn _ (by omega)]
    simp

end

/-- Settles O39: what `Cp0.fromEntry` puts into the four registers. -/
theorem tlbRead : Obligations.TlbRead :=
  ⟨rfl, fun _ hu => privileged_unusable hu, fun s hu => ⟨_, privileged_usable hu, rfl, rfl,
    entryLo_fields ((s.tlbAt (indexed s)).page false) _, entryLo_fields ((s.tlbAt (indexed s)).page true) _,
    ⟨rfl, rfl, rfl⟩, rfl⟩⟩

/-! ### Writing an entry (R447, R448) -/

/-- R33: the legal page masks as numbers. -/
theorem legalMask_iff (m : BitVec 12) :
    legalMask m = true ↔ m.toNat ∈ [0x000, 0x003, 0x00F, 0x03F, 0x0FF, 0x3FF, 0xFFF] := by
  simp [legalMask, ← BitVec.toNat_inj, or_assoc]

/-- R447, R627: the conflict sets TS, but in debug mode Status keeps its value. -/
theorem reportConflict_eq (s : State) : reportConflict s =
    { s with cp0 := { s.cp0 with status := if s.dm then s.cp0.status else s.cp0.status ||| 0x00200000 } } := by
  unfold reportConflict
  cases s.dm <;> rfl

section

variable {s : State} {i : Nat}

theorem EntryWritten.retired (s : State) (hi : i < 32) : EntryWritten i s (s.setTlb i (newEntry s.cp0)).retire :=
  ⟨(State.tlbAt_setTlb ..).trans (if_pos rfl), fun j hj hne => (State.tlbAt_setTlb ..).trans (if_neg (by omega)),
    ⟨rfl, rfl, rfl⟩, rfl⟩

theorem tlbWrite_refused (hl : ¬legalMask (newEntry s.cp0).mask = true) : tlbWrite i s = .refused .reservedPageMask := by
  simp [tlbWrite, hl]

theorem tlbWrite_clash (hl : legalMask (newEntry s.cp0).mask = true) (hc : tlbConflict s i (newEntry s.cp0) = true) :
    tlbWrite i s = .next (takeException .mcheck (reportConflict s)) := by
  simp [tlbWrite, hl, hc, raise]

theorem tlbWrite_written (hl : legalMask (newEntry s.cp0).mask = true) (hc : ¬tlbConflict s i (newEntry s.cp0) = true)
    (hi : i < 32) : Next (tlbWrite i s) (EntryWritten i s) := by
  refine ⟨_, ?_, EntryWritten.retired s hi⟩
  simp [tlbWrite, hl, hc, done]

end

theorem indexed_lt (s : State) : indexed s < 32 :=
  (Nat.mod_lt _ (Nat.succ_pos s.params.lastIndex)).trans_le (tlbSize_le s.params)

/-- Settles O40: the three outcomes of `tlbWrite`. -/
theorem tlbWriteIndexed : Obligations.TlbWriteIndexed := by
  refine ⟨fun c => ⟨rfl, rfl, rfl, Bool.and_eq_true_iff, rfl, rfl, rfl, rfl, rfl, rfl, rfl, rfl⟩, TlbEntry.overlaps_iff,
    fun s hu => ?_⟩
  intro i clash legal
  have hlegal : legalMask (newEntry s.cp0).mask = true ↔ legal := legalMask_iff _
  have hclash : tlbConflict s i (newEntry s.cp0) = true ↔ clash := tlbConflict_iff
  have hexec : exec .tlbwi s = tlbWrite i s := privileged_usable hu
  rw [hexec, ← hlegal, ← hclash]
  exact ⟨fun hl hc => tlbWrite_written hl hc (indexed_lt s),
    fun hl hc => by rw [tlbWrite_clash hl hc, reportConflict_eq], tlbWrite_refused⟩

/-- Settles O41: the same three outcomes, in the state that has drawn its index. -/
theorem tlbWriteRandom : Obligations.TlbWriteRandom := by
  intro s hu legal
  have hlast := randomValue_le s s.draw
  refine ⟨randomValue s s.draw, Nat.le_add_right _ _, hlast, ?_⟩
  intro drawn clash
  have hlegal : legalMask (newEntry drawn.cp0).mask = true ↔ legal := legalMask_iff _
  have hclash : tlbConflict drawn (randomValue s s.draw) (newEntry drawn.cp0) = true ↔ clash := tlbConflict_iff
  have hexec : exec .tlbwr s = tlbWrite (randomValue s s.draw) drawn := privileged_usable hu
  rw [hexec, ← hlegal, ← hclash]
  exact ⟨fun hl hc => tlbWrite_written hl hc (hlast.trans_lt (lastIndex_lt _)),
    fun hl hc => by rw [tlbWrite_clash hl hc, reportConflict_eq]; rfl, tlbWrite_refused⟩

end Sys2Proof.Machine
end

section
/-! SUPPORT. The moves of coprocessor 0 (45_trap_system.md R430 to R442) and where coprocessor 0 may be used (R451, R462). -/

namespace Sys2Proof.Machine

/-! ### Usability (R451, R462) -/

theorem cp0Usable_iff (s : State) :
    s.cp0Usable = true ↔ s.dm = true ∨ s.um = false ∨ s.exl = true ∨ s.erl = true ∨ s.cu0 = true := by
  unfold State.cp0Usable State.userMode
  cases s.dm <;> cases s.um <;> cases s.exl <;> cases s.erl <;> simp

/-- Settles O32: each of the instructions asks `privileged` first, and so does a reserved COP0 word. -/
theorem privilegedInUserMode : Obligations.PrivilegedInUserMode := by
  intro s rt rd base sel code op off
  refine ⟨cp0Usable_iff s, fun hu => ⟨fun i hi => ?_, fun w hw hop => ?_, takeException_rest _ s⟩⟩
  · simp only [List.mem_cons, List.not_mem_nil, or_false] at hi
    rcases hi with rfl | rfl | rfl | rfl | rfl | rfl | rfl | rfl | rfl | rfl | rfl | rfl | rfl | rfl
    all_goals exact privileged_unusable hu
  · rw [runWord_reserved hw, reservedWord_eq, if_pos ⟨hop, hu⟩]

/-! ### Results after a change of coprocessor 0 -/

section

variable {s : State} {i : Instr} {rd : Reg} {v : Word} {t : State}

/-- A privileged instruction that writes a general register of the state `t`. -/
theorem wrote_of_privileged (hu : s.cp0Usable = true) (hi : exec i s = privileged s (writeResult rd v t)) :
    Next (exec i s) (Wrote rd v t) := by
  rw [hi, privileged_usable hu]
  exact writeResult_next rd v t

end

/-! ### MFC0 (R430) -/

section

variable {s : State} {q : Cp0Reg}

theorem cp0Read_some (hr : q ≠ .random) :
    cp0Read (some q) s = if q.debugOnly && !s.dm then (s.draw, s.drawn 1) else (cp0Value s q, s) := by
  cases q with
  | random => exact absurd rfl hr
  | _ => rfl

theorem cp0Read_value (hr : q ≠ .random) (hd : q.debugOnly = false ∨ s.dm = true) :
    cp0Read (some q) s = (cp0Value s q, s) := by
  rw [cp0Read_some hr]
  rcases hd with h | h <;> simp [h]

theorem cp0Read_hidden (hd : q.debugOnly = true) (hdm : s.dm = false) : cp0Read (some q) s = (s.draw, s.drawn 1) := by
  have hr : q ≠ .random := fun e => by rw [e] at hd; cases hd
  rw [cp0Read_some hr]
  simp [hd, hdm]

end

/-- Settles O33: what `cp0Read` answers for an implemented, the random, and an absent or hidden register. -/
theorem moveFromCp0 : Obligations.MoveFromCp0 := by
  intro s rt rd sel hu
  have run : exec (.mfc0 rt rd sel) s =
      privileged s (writeResult rt (cp0Read (cp0Reg rd sel) s).1 (cp0Read (cp0Reg rd sel) s).2) := rfl
  refine ⟨fun q hq hr hd => ?value, fun hq => ?random, fun h => ?free⟩
  case value =>
    rw [hq, cp0Read_value hr hd] at run
    exact wrote_of_privileged hu run
  case random =>
    have hlast := randomValue_le s s.draw
    have index : (BitVec.ofNat 32 (randomValue s s.draw)).toNat = randomValue s s.draw :=
      toNat_ofNat_index (hlast.trans_lt (lastIndex_lt _))
    rw [hq] at run
    refine ⟨BitVec.ofNat 32 (randomValue s s.draw), index.trans_le hlast, ?_, wrote_of_privileged hu run⟩
    rw [index]
    exact Nat.le_add_right _ _
  case free =>
    have drawn : cp0Read (cp0Reg rd sel) s = (s.draw, s.drawn 1) := by
      rcases h with hq | ⟨q, hq, hd, hdm⟩
      · rw [hq]
        rfl
      · rw [hq, cp0Read_hidden hd hdm]
    rw [drawn] at run
    exact wrote_of_privileged hu run

/-! ### Masked writes (R431, R432) -/

section

theorem eq_of_bit_eq {a b : Word} (h : ∀ i < 32, bit a i = bit b i) : a = b := BitVec.eq_of_getLsbD_eq h

theorem bit_disjoint {a b : Word} (h : a &&& b = 0) (i : Nat) : (bit a i && bit b i) = false := by
  rw [← bit_and, h]
  exact BitVec.getLsbD_zero

variable {m k : Word} (old v : Word)

theorem masked_none : masked 0 old v = old :=
  calc masked 0 old v = (old &&& BitVec.allOnes 32) ||| (v &&& 0#32) := rfl
    _ = old := by rw [BitVec.and_allOnes, BitVec.and_zero, BitVec.or_zero]

theorem masked_all : masked 0xFFFFFFFF old v = v :=
  calc masked 0xFFFFFFFF old v = (old &&& 0#32) ||| (v &&& BitVec.allOnes 32) := rfl
    _ = v := by rw [BitVec.and_allOnes, BitVec.and_zero, BitVec.zero_or]

/-- Bits that the mask does not write stay beside the written ones. -/
theorem masked_or {fixed : Word} (h : fixed &&& m = 0) : masked m (old ||| fixed) v = masked m old v ||| fixed := by
  refine eq_of_bit_eq fun i hi => ?_
  have hbit := bit_disjoint h i
  simp only [masked, bit_or, bit_and, bit_not _ hi]
  cases hm : bit m i with
  | false => simp
  | true => simp_all

/-- R432: bits that are cleared by writing 0 stay where they were 1 and are written 1. -/
theorem maskedClear_eq (h : m &&& k = 0) :
    maskedClear m k old v = (old &&& ~~~(m ||| k)) ||| (v &&& m) ||| (old &&& v &&& k) := by
  refine eq_of_bit_eq fun i hi => ?_
  have hbit := bit_disjoint h i
  simp only [maskedClear, masked, bit_or, bit_and, bit_not _ hi]
  cases hm : bit m i with
  | false => cases bit k i <;> simp
  | true => simp_all

/-- R432: bits that are cleared by writing 1 stay where they were 1 and are written 0. -/
theorem masked_and_not_eq (h : m &&& k = 0) :
    masked m old v &&& ~~~(v &&& k) = (old &&& ~~~(m ||| k)) ||| (v &&& m) ||| (old &&& ~~~v &&& k) := by
  refine eq_of_bit_eq fun i hi => ?_
  have hbit := bit_disjoint h i
  simp only [masked, bit_or, bit_and, bit_not _ hi]
  cases hm : bit m i with
  | false => cases bit k i <;> simp
  | true => simp_all

end

/-! ### MTC0 (R431, R432) -/

section

variable {s : State} {p q : Cp0Reg} {m v : Word}

theorem extract_low3 (v : Word) : (v.extractLsb' 0 3).setWidth 32 = v &&& 7 := by
  refine BitVec.eq_of_getLsbD_eq fun i hi => ?_
  have low : ∀ j : Fin 32, (7 : Word).getLsbD j = decide (j.val < 3) := by decide
  rw [BitVec.getLsbD_setWidth, BitVec.getLsbD_extractLsb', BitVec.getLsbD_and, low ⟨i, hi⟩]
  simp [hi, Bool.and_comm]

/-- R49: K0 stands below the constant bits of Config. -/
theorem configValue_masked (s : State) (v : Word) :
    0x80000480 ||| flag s.params.bigEndian 15 ||| (v.extractLsb' 0 3).setWidth 32 = masked 7 (configValue s) v := by
  have constant : (0x80000480 ||| flag s.params.bigEndian 15) &&& (7 : Word) = 0 := by cases s.params.bigEndian <;> rfl
  have k0 : ∀ k : BitVec 3, k.setWidth 32 &&& ~~~(7 : Word) = 0#32 := by decide
  rw [configValue, BitVec.or_comm, BitVec.or_comm _ (s.cp0.k0.setWidth 32), masked_or _ _ constant, masked, k0, extract_low3,
    BitVec.zero_or]

/-- R57: MTC0 writes neither CountDM nor the version of Debug. -/
theorem debugValue_masked (s : State) (v : Word) :
    masked debugMask s.cp0.debug v ||| one 25 ||| (Config.ejtagVer.setWidth 32 <<< 15) = masked debugMask (debugValue s) v := by
  have constant : ∀ (version : BitVec 3) (b : Bool),
      (one 25 ||| (version.setWidth 32 <<< 15)) &&& (0x10100100 ||| flag b 23) = 0 := by decide
  have kept : (one 25 ||| (Config.ejtagVer.setWidth 32 <<< 15)) &&& debugMask = 0 := constant _ _
  rw [debugValue, BitVec.or_assoc, BitVec.or_assoc, masked_or _ _ kept]

/-- A register with a plain mask takes the masked value. -/
theorem cp0Write_plain (h : plainMask q = some m) :
    cp0Value (s.withCp0 (cp0Write q v s)) q = masked m (cp0Value s q) v := by
  cases q
  case index | wired | status | cause | watchHi => cases h
  all_goals obtain rfl := Option.some.inj h
  case config => exact configValue_masked s v
  case debug => exact debugValue_masked s v
  case random | badVAddr | prid | config1 | config2 | config3 | llAddr | dataLo => exact (masked_none _ v).symm
  case epc | depc | errorEpc | desave | watchLo => exact (masked_all _ v).symm
  all_goals rfl

/-- Every other register keeps its value. -/
theorem cp0Write_other (h : plainMask q = some m) (hne : p ≠ q) :
    cp0Value (s.withCp0 (cp0Write q v s)) p = cp0Value s p := by
  cases q with
  | index | wired | status | cause | watchHi => cases h
  | random | badVAddr | prid | config1 | config2 | config3 | llAddr | dataLo => rfl
  | _ =>
    cases p
    all_goals try rfl
    exact absurd rfl hne

theorem exec_mtc0 {rt rd : Reg} {sel : BitVec 3} (hu : s.cp0Usable = true) (hq : cp0Reg rd sel = some q) :
    exec (.mtc0 rt rd sel) s = done (s.withCp0 (cp0Write q (s.reg rt) s)) := by
  have run : exec (.mtc0 rt rd sel) s = done (writeCp0 (cp0Reg rd sel) (s.reg rt) s) := privileged_usable hu
  rw [run, hq]
  rfl

/-- MTC0 replaces coprocessor 0 and advances. -/
theorem mtc0_next {rt rd : Reg} {sel : BitVec 3} {c : Cp0} (hu : s.cp0Usable = true) (hq : cp0Reg rd sel = some q)
    (hc : cp0Write q (s.reg rt) s = c) : Next (exec (.mtc0 rt rd sel) s) fun t => Advanced s t ∧
      t = { s with cp0 := c, pc := t.pc, pending := t.pending, inDelaySlot := t.inDelaySlot } := by
  rw [exec_mtc0 hu hq, hc]
  exact ⟨_, rfl, ⟨rfl, rfl, rfl⟩, rfl⟩

/-- R29, R432: the bits of a TLB index. -/
theorem indexMask_eq (s : State) : indexMask s = if s.params.tlb32 then 31 else 15 := by
  unfold indexMask Params.indexBits
  cases s.params.tlb32 <;> rfl

end

/-- Settles O34: the masks of `cp0Write`, register by register. -/
theorem moveToCp0 : Obligations.MoveToCp0 := by
  refine fun s rt rd sel hu => ⟨fun q m hq hm => ?_, fun hq => ?_⟩
  · exact ⟨_, exec_mtc0 hu hq, ⟨rfl, rfl, rfl⟩, cp0Write_plain hm, fun p hne => cp0Write_other hm hne, rfl⟩
  · have run : exec (.mtc0 rt rd sel) s = done (writeCp0 (cp0Reg rd sel) (s.reg rt) s) := privileged_usable hu
    rw [run, hq]
    exact done_next s

/-- Settles O35: the registers whose write is no plain mask. -/
theorem moveToCp0Special : Obligations.MoveToCp0Special := by
  intro s rt hu v low only
  have hlow : indexMask s = low := indexMask_eq s
  refine ⟨mtc0_next (q := .status) hu rfl ?status, mtc0_next (q := .cause) hu rfl ?cause,
    mtc0_next (q := .watchHi) hu rfl ?watchHi, mtc0_next (q := .index) hu rfl ?index, mtc0_next (q := .wired) hu rfl ?wired⟩
  case status => rw [cp0Write, maskedClear_eq _ _ (by decide)]; rfl
  case cause => rw [cp0Write, maskedClear_eq _ _ (by decide)]; rfl
  case watchHi => rw [cp0Write, masked_and_not_eq _ _ (by decide)]; rfl
  case index => rw [cp0Write, hlow]; rfl
  case wired => rw [cp0Write, hlow]; rfl

/-! ### DI, EI and the shadow registers (R433, R434, R441, R442) -/

/-- Settles O36: both are `setIe`. -/
theorem interruptEnable : Obligations.InterruptEnable := by
  refine fun s rt => ⟨?encoding, fun hu => ⟨wrote_of_privileged hu rfl, wrote_of_privileged hu rfl⟩, fun hu i hi => ?unusable⟩
  case encoding =>
    have words : ∀ r : Reg, encode (.di r) = 0x41606000 ||| (r.setWidth 32 <<< 16) ∧
        encode (.ei r) = 0x41606020 ||| (r.setWidth 32 <<< 16) := by decide
    exact words rt
  case unusable =>
    simp only [List.mem_cons, List.not_mem_nil, or_false] at hi
    rcases hi with rfl | rfl
    all_goals exact privileged_unusable hu

/-- Settles O37: with one register set both are a move. -/
theorem shadowMoves : Obligations.ShadowMoves := by
  refine fun s rd rt => ⟨⟨rfl, rfl⟩, fun hu => ⟨wrote_of_privileged hu rfl, wrote_of_privileged hu rfl⟩, fun hu i hi => ?_⟩
  simp only [List.mem_cons, List.not_mem_nil, or_false] at hi
  rcases hi with rfl | rfl
  all_goals exact privileged_unusable hu

end Sys2Proof.Machine
end

section
/-! SUPPORT. Traps, software breakpoints and the returns from exceptions (45_trap_system.md R400 to R421, 62_ejtag.md R625 to
R628): the condition of each trap as its rule compares numbers, and the bits of Status and Debug one by one. -/

namespace Sys2Proof.Machine

/-! ### Conditional traps (R400 to R412) -/

section

variable {s : State} {i : Instr} {c : Prop} {taken : Bool} {a b : Word} {imm : Imm16}

theorem trapsWhen_of_exec (hi : exec i s = trapIf taken s) (hc : taken = true ↔ c) : TrapsWhen i c s := by
  rw [TrapsWhen, hi, ← hc]
  refine ⟨fun h => if_pos h, fun h => ?_⟩
  rw [trapIf, if_neg h]
  exact done_next s

theorem ltSigned_iff : ltSigned a b = true ↔ a.toInt < b.toInt := decide_eq_true_iff
theorem ltUnsigned_iff : ltUnsigned a b = true ↔ a.toNat < b.toNat := decide_eq_true_iff

theorem not_ltSigned_iff : (!ltSigned a b) = true ↔ b.toInt ≤ a.toInt := by
  rw [Bool.not_eq_true', ← Bool.not_eq_true, ltSigned_iff, not_lt]

theorem not_ltUnsigned_iff : (!ltUnsigned a b) = true ↔ b.toNat ≤ a.toNat := by
  rw [Bool.not_eq_true', ← Bool.not_eq_true, ltUnsigned_iff, not_lt]

/-- The sign-extended immediate is compared as the number that it is. -/
theorem beq_sext16_iff : (a == sext16 imm) = true ↔ a.toInt = imm.toInt := by
  rw [beq_iff_eq, ← sext16_toInt, BitVec.toInt_inj]

theorem bne_sext16_iff : (a != sext16 imm) = true ↔ a.toInt ≠ imm.toInt := by
  rw [bne_iff_ne, ← sext16_toInt, ne_eq, ne_eq, BitVec.toInt_inj]

end

/-- Settles O28: each trap compares what its rule compares; the other instructions raise their exception at once. -/
theorem trapInstructions : Obligations.TrapInstructions := by
  intro s rs rt code imm c r a b u
  refine ⟨⟨rfl, rfl, rfl, rfl, rfl, rfl, rfl, rfl, rfl, rfl, rfl, rfl, rfl, rfl, rfl⟩,
    trapsWhen_of_exec rfl not_ltSigned_iff, trapsWhen_of_exec rfl not_ltUnsigned_iff,
    trapsWhen_of_exec rfl ltSigned_iff, trapsWhen_of_exec rfl ltUnsigned_iff,
    trapsWhen_of_exec rfl beq_iff_eq, trapsWhen_of_exec rfl bne_iff_ne,
    trapsWhen_of_exec rfl ?tgei, trapsWhen_of_exec rfl not_ltUnsigned_iff,
    trapsWhen_of_exec rfl ?tlti, trapsWhen_of_exec rfl ltUnsigned_iff,
    trapsWhen_of_exec rfl beq_sext16_iff, trapsWhen_of_exec rfl bne_sext16_iff,
    rfl, rfl, rfl, fun i hi => ?cop1, fun i hi => ?cop2⟩
  case tgei => rw [not_ltSigned_iff, sext16_toInt]
  case tlti => rw [ltSigned_iff, sext16_toInt]
  case cop1 =>
    simp only [List.mem_cons, List.not_mem_nil, or_false] at hi
    rcases hi with rfl | rfl | rfl | rfl | rfl | rfl | rfl
    all_goals rfl
  case cop2 =>
    simp only [List.mem_cons, List.not_mem_nil, or_false] at hi
    rcases hi with rfl | rfl | rfl | rfl | rfl
    all_goals rfl

/-! ### SDBBP (R417, R625, R627) -/

section

variable (s : State) {i : Nat}

/-- R57, R625: Debug after the entry: DBD, DM, Halt, Doze and the cause bits are written, the others kept. -/
theorem bit_debugEntry (c : DebugCause) (hi : i < 32) : bit (debugEntry c s).cp0.debug i =
    (bit s.cp0.debug i && !decide (i < 6 ∨ i = 26 ∨ i = 27 ∨ i = 31) || s.inDelaySlot && decide (i = 31) || decide (i = 30) ||
      s.waiting && decide (i = 27) || decide (i = c.bitNo)) := by
  have written : ∀ j : Fin 32, bit 0x8C00003F#32 j = decide (j.val < 6 ∨ j.val = 26 ∨ j.val = 27 ∨ j.val = 31) := by decide
  change bit ((s.cp0.debug &&& ~~~(0x8C00003F#32)) ||| flag s.inDelaySlot 31 ||| one 30 ||| flag s.waiting 27 |||
    one c.bitNo) i = _
  rw [bit_or, bit_or, bit_or, bit_or, bit_and, bit_not _ hi, bit_flag _ hi, bit_flag _ hi, bit_one hi, bit_one hi,
    written ⟨i, hi⟩]

/-- R622: the cause bits after the entry are those of its cause. -/
theorem debugEntry_cause (c : DebugCause) : field (debugEntry c s).cp0.debug 0 6 = field (one c.bitNo) 0 6 :=
  field_congr fun i hi => by
    rw [bit_debugEntry s c (by omega), bit_one (by omega)]
    simp [hi, show i ≠ 31 by omega, show i ≠ 30 by omega, show i ≠ 27 by omega]

/-- R627: the entry in debug mode changes DExcCode alone. -/
theorem bit_debugReenter (code : Word) (hi : i < 10 ∨ 15 ≤ i) : bit (debugReenter code s).cp0.debug i = bit s.cp0.debug i := by
  by_cases h : i < 32
  · exact bit_putField_out _ _ (by omega) h
  · rw [bit_of_ge _ (by omega), bit_of_ge _ (by omega)]

theorem debugReenter_code (code : Word) : field (debugReenter code s).cp0.debug 10 5 = field code 0 5 :=
  field_putField_same _ _ (by omega)

end

theorem exec_sdbbp_outside {s : State} (code : BitVec 20) (h : s.dm = false) :
    exec (.sdbbp code) s = .next (debugEntry .dbp s) := congrArg Host.Outcome.next (if_neg (by simp [h]))

theorem exec_sdbbp_inside {s : State} (code : BitVec 20) (h : s.dm = true) :
    exec (.sdbbp code) s = .next (debugReenter 9 s) := congrArg Host.Outcome.next (if_pos h)

/-- Settles O29: `debugEntry` outside debug mode, `debugReenter` inside. -/
theorem debugBreakpoint : Obligations.DebugBreakpoint := by
  intro s code vector
  refine ⟨rfl, fun hdm => ⟨_, exec_sdbbp_outside code hdm, rfl, ?dbd, debugEntry_cause s .dbp, ?dm, ?doze, ?halt,
    fun i hlo hi => ?kept, rfl⟩, fun hdm => ⟨_, exec_sdbbp_inside code hdm, debugReenter_code s 9,
    fun i hi => bit_debugReenter s 9 hi, rfl⟩⟩
  case dbd => simp [bit_debugEntry, DebugCause.bitNo]
  case dm => exact (bit_debugEntry s .dbp (by decide)).trans (by simp)
  case doze => simp [bit_debugEntry, DebugCause.bitNo]
  case halt => simp [bit_debugEntry, DebugCause.bitNo]
  case kept =>
    rw [bit_debugEntry s .dbp (by omega)]
    simp [DebugCause.bitNo, show ¬i < 6 by omega, show i ≠ 26 by omega, show i ≠ 27 by omega, show i ≠ 31 by omega,
      show i ≠ 30 by omega, show i ≠ 1 by omega]

/-! ### ERET and DERET (R420, R421, R628) -/

section

variable (s : State) {i : Nat}

/-- R420: ERL decides which bit of Status is cleared and where ERET goes. -/
theorem returnFromException_eq : returnFromException s =
    { s with cp0 := { s.cp0 with status := setBit s.cp0.status (if s.erl then 2 else 1) false }, llBit := false,
             pc := if s.erl then s.cp0.errorEpc else s.cp0.epc, pending := none, inDelaySlot := false } := by
  unfold returnFromException
  cases s.erl <;> rfl

theorem bit_setBit_false (w : Word) (hi : i < 32) (j : Nat) : bit (setBit w j false) i = (bit w i && decide (i ≠ j)) := by
  rw [bit_setBit w false hi]
  by_cases h : i = j <;> simp [h]

/-- R421: DERET clears DM and IEXI. -/
theorem bit_returnFromDebug (hi : i < 32) :
    bit (returnFromDebug s).cp0.debug i = (bit s.cp0.debug i && decide (i ≠ 30 ∧ i ≠ 20)) := by
  have cleared : ∀ j : Fin 32, (!bit 0x40100000#32 j) = decide (j.val ≠ 30 ∧ j.val ≠ 20) := by decide
  change bit (s.cp0.debug &&& ~~~(0x40100000#32)) i = _
  rw [bit_and, bit_not _ hi, cleared ⟨i, hi⟩]

end

theorem dm_usable {s : State} (h : s.dm = true) : s.cp0Usable = true := (cp0Usable_iff s).2 (.inl h)

/-- Settles O31: outside a delay slot nothing stands before the two returns but the test of debug mode. -/
theorem exceptionReturns : Obligations.ExceptionReturns := by
  refine fun s => ⟨rfl, rfl, fun hu hslot => ?eret, fun hdm hslot => ?deret, fun hdm hu => ?reserved⟩
  case eret =>
    have run : exec .eret s = .next (returnFromException s) := (privileged_usable hu).trans (outsideSlot_outside hslot)
    rw [run, returnFromException_eq]
    exact ⟨_, rfl, rfl, fun i hi => bit_setBit_false _ hi _, rfl⟩
  case deret =>
    have run : exec .deret s = .next (returnFromDebug s) :=
      (privileged_usable (dm_usable hdm)).trans ((if_pos hdm).trans (outsideSlot_outside hslot))
    exact ⟨_, run, rfl, fun i hi => bit_returnFromDebug s hi, rfl⟩
  case reserved => exact (privileged_usable hu).trans (if_neg (by simp [hdm]))

end Sys2Proof.Machine
end

section
/-! SUPPORT. What exceptions record and raise (60_exceptions.md R470 to R500): the address registers, the watch register, and the
requests taken before an instruction. -/

namespace Sys2Proof.Machine

/-! ### The address registers (R472) -/

section

variable (e : Exc) (s : State)

/-- R470, R472: beyond the address registers an exception writes Cause, EPC and Status. -/
theorem exceptionCp0_rest : exceptionCp0 e s =
    { s.cp0.recordAddr e with cause := (exceptionCp0 e s).cause, epc := (exceptionCp0 e s).epc,
                              status := (exceptionCp0 e s).status } := by
  unfold exceptionCp0
  dsimp only
  split <;> rfl

theorem takeException_cp0 (h : s.dm = false) : (takeException e s).cp0 = exceptionCp0 e s := by
  rw [takeException_outside e s h]
  rfl

@[simp] theorem exceptionCp0_badVAddr : (exceptionCp0 e s).badVAddr = (s.cp0.recordAddr e).badVAddr := by rw [exceptionCp0_rest]
@[simp] theorem exceptionCp0_context : (exceptionCp0 e s).context = (s.cp0.recordAddr e).context := by rw [exceptionCp0_rest]
@[simp] theorem exceptionCp0_entryHi : (exceptionCp0 e s).entryHi = (s.cp0.recordAddr e).entryHi := by rw [exceptionCp0_rest]

end

section

variable {c : Cp0} {e : Exc} {va : Word}

/-- R472: an exception without a failing address. -/
theorem Cp0.recordAddr_none (h : e.badAddr = none) : c.recordAddr e = c := by rw [Cp0.recordAddr, h]

/-- R472: an address error. -/
theorem Cp0.recordAddr_plain (h : e.badAddr = some va) (ht : e.isTlb = false) : c.recordAddr e = { c with badVAddr := va } := by
  simp [Cp0.recordAddr, h, ht]

/-- R472: a TLB exception. -/
theorem Cp0.recordAddr_tlb (h : e.badAddr = some va) (ht : e.isTlb = true) : c.recordAddr e =
    { c with badVAddr := va, context := putField c.context 4 19 (va >>> 13), entryHi := putField c.entryHi 13 19 (va >>> 13) } := by
  simp [Cp0.recordAddr, h, ht]

/-- An address without its offset in a page pair fits into the 19 bits of VPN2. -/
theorem field_vpn2 (va : Word) : field (va >>> 13) 0 19 = va.toNat / 2 ^ 13 := by
  have hva := va.isLt
  rw [field, BitVec.extractLsb'_toNat, Nat.shiftRight_zero, BitVec.toNat_ushiftRight, Nat.shiftRight_eq_div_pow]
  exact Nat.mod_eq_of_lt (by omega)

/-- R38: the VPN2 field stands above the ASID. -/
theorem putVpn2_asid (w v : Word) : (putField w 13 19 v).setWidth 8 = w.setWidth 8 := by
  refine BitVec.eq_of_getLsbD_eq fun i hi => ?_
  have below : bit (putField w 13 19 v) i = bit w i := bit_putField_out w v (by omega) (by omega)
  simpa [bit, hi] using below

end

/-- Settles O27: the three registers after an exception are those of `recordAddr`, which tells address errors, TLB exceptions and
the others apart. -/
theorem failingAddress : Obligations.FailingAddress := by
  intro s e hdm
  simp only [State.asid, takeException_cp0 e s hdm, exceptionCp0_badVAddr, exceptionCp0_context, exceptionCp0_entryHi]
  refine ⟨fun va h => ?addressError, fun va r h => ?tlb, fun ⟨off, n, h⟩ => ?other⟩
  case addressError =>
    obtain ⟨hva, hnone⟩ : e.badAddr = some va ∧ e.isTlb = false := by rcases h with rfl | rfl <;> exact ⟨rfl, rfl⟩
    rw [Cp0.recordAddr_plain hva hnone]
    exact ⟨rfl, rfl, rfl⟩
  case tlb =>
    obtain ⟨hva, htlb⟩ : e.badAddr = some va ∧ e.isTlb = true := by rcases h with rfl | rfl | rfl <;> exact ⟨rfl, rfl⟩
    rw [Cp0.recordAddr_tlb hva htlb]
    exact ⟨rfl, (field_putField_same _ _ (by omega)).trans (field_vpn2 va),
      (field_putField_same _ _ (by omega)).trans (field_vpn2 va), putVpn2_asid _ _⟩
  case other =>
    have hnone : e.badAddr = none := by
      simp only [List.mem_cons, List.not_mem_nil, or_false] at h
      rcases h with rfl | rfl | rfl | rfl | rfl | rfl | rfl | rfl | rfl <;> rfl
    rw [Cp0.recordAddr_none hnone]
    exact ⟨rfl, rfl, rfl⟩

/-! ### The watch register (R491) -/

section

variable {va : Word} {k : Kind} {s : State} {n : Nat} {rt base : Reg} {off : Imm16} {t : Word × BitVec 3} {l : Lanes} {v : Word}

/-- R55, R56: the bits of an address that a watch compares: 31:3 without those that WatchHi masks. -/
def watchKeep (hi : Word) : Word := ~~~(hi &&& 0x00000FF8) &&& 0xFFFFFFF8

theorem bit_watchKeep (hi : Word) {i : Nat} (h : i < 32) :
    bit (watchKeep hi) i = decide (3 ≤ i ∧ ¬(i < 12 ∧ bit hi i = true)) := by
  have masks : ∀ j : Fin 32,
      bit 0x00000FF8 j = decide (3 ≤ j.val ∧ j.val < 12) ∧ bit 0xFFFFFFF8 j = decide (3 ≤ j.val) := by decide
  obtain ⟨maskable, compared⟩ : bit 0x00000FF8 i = decide (3 ≤ i ∧ i < 12) ∧ bit 0xFFFFFFF8 i = decide (3 ≤ i) :=
    masks ⟨i, h⟩
  rw [watchKeep, bit_and, bit_not _ h, bit_and, maskable, compared, Bool.eq_iff_iff]
  cases bit hi i with
  | false => simp
  | true => simp; omega

/-- R491: an enabled watch register matches where the compared bits agree, in its address space. -/
theorem watchMatch_intro (hdm : s.dm = false) (hen : bit s.cp0.watchLo k.watchBit = true)
    (hva : ∀ i, 3 ≤ i → i < 32 → ¬(i < 12 ∧ bit s.cp0.watchHi i = true) → bit va i = bit s.cp0.watchLo i)
    (hasid : bit s.cp0.watchHi 30 = true ∨ field s.cp0.watchHi 16 8 = s.asid.toNat) : watchMatch va k s = true := by
  have agree : va &&& watchKeep s.cp0.watchHi = s.cp0.watchLo &&& watchKeep s.cp0.watchHi := by
    refine eq_of_bit_eq fun i hi => ?_
    rw [bit_and, bit_and, bit_watchKeep _ hi]
    by_cases hk : 3 ≤ i ∧ ¬(i < 12 ∧ bit s.cp0.watchHi i = true)
    · rw [hva i hk.1 hi hk.2]
    · rw [decide_eq_false hk, Bool.and_false, Bool.and_false]
  have space : (bit s.cp0.watchHi 30 || s.cp0.watchHi.extractLsb' 16 8 == s.asid) = true := by
    rw [Bool.or_eq_true, beq_iff_eq]
    exact hasid.imp_right BitVec.eq_of_toNat_eq
  unfold watchKeep at agree
  simp only [watchMatch, hen, hdm, agree, space, Bool.not_false, BEq.rfl, Bool.and_self]

/-- The state in which a watch exception of an access of kind `k` is entered: WatchHi reports the access (R56). -/
def watchReported (k : Kind) (s : State) : State :=
  { s with cp0 := { s.cp0 with watchHi := setBit s.cp0.watchHi k.watchBit true } }

/-- R491: with EXL = ERL = 0 the exception is not deferred. -/
theorem prepare_watch (ht : translate va k s = .ok t s) (hw : watchMatch va k s = true) (hexl : s.exl = false)
    (herl : s.erl = false) : prepare k va l s = .exc .watch (watchReported k s) := by
  simp [prepare, ht, Res.bind, watchCheck, hw, hexl, herl, watchReported, State.withCp0]

/-- Outside debug mode no address is in dseg (R630). -/
theorem dataDseg_outside (h : s.dm = false) : dataDseg va s = false := by simp [dataDseg, inDseg, h]

theorem memReadPa_watch (ha : va.toNat % n = 0) (hdm : s.dm = false)
    (hp : prepare .load va (plainLanes s va n) s = .exc .watch (watchReported .load s)) :
    memReadPa va n s = .exc .watch (watchReported .load s) := by
  simp [memReadPa, aligned, ha, readLanes, dataDseg_outside hdm, hp, Res.bind]

theorem memWrite_watch (ha : va.toNat % n = 0) (hdm : s.dm = false)
    (hp : prepare .store va (plainLanes s va n) s = .exc .watch (watchReported .store s)) :
    memWrite va n v s = .exc .watch (watchReported .store s) := by
  simp [memWrite, aligned, ha, writeLanes, dataDseg_outside hdm, hp, Res.bind]

/-- A load whose access raises an exception takes it in the state the access leaves. -/
theorem load_raises {ext : Word → Word} {e : Exc} {u : State} (h : memReadPa (effAddr base off s) n s = .exc e u) :
    load rt base off n ext s = .next (takeException e u) := by
  simp [load, memRead, h, Res.bind, Res.out, raise]

/-- A store whose access raises an exception takes it in the state the access leaves. -/
theorem store_raises {e : Exc} {u : State} (h : memWrite (effAddr base off s) n (s.reg rt) s = .exc e u) :
    store rt base off n s = .next (takeException e u) := by
  simp [store, h, Res.out, raise]

end

/-- Settles O23: the watch check follows the translation and comes before any data moves. -/
theorem watchedAccess : Obligations.WatchedAccess := by
  intro s rt base off ea hi halign hdm hexl herl hva hasid
  refine ⟨fun hen ⟨t, ht⟩ => load_raises (memReadPa_watch halign hdm (prepare_watch ht ?_ hexl herl)),
    fun hen ⟨t, ht⟩ => store_raises (memWrite_watch halign hdm (prepare_watch ht ?_ hexl herl))⟩
  all_goals exact watchMatch_intro hdm hen hva hasid

end Sys2Proof.Machine
end

section
/-! SUPPORT. Interrupts and NMI (60_exceptions.md R475 to R500): the request that is due is taken before the next instruction. -/

namespace Sys2Proof.Machine

/-! ### The offset of an interrupt (R475) -/

/-- The last number below `k` with a property. -/
theorem foldl_last_below {p : Nat → Bool} {k n : Nat} (hn : n < k) (hp : p n = true)
    (hlast : ∀ m, n < m → m < k → p m = false) : (List.range k).foldl (fun acc i => if p i then i else acc) 0 = n := by
  induction k with
  | zero => omega
  | succ k ih =>
    rw [List.range_succ, List.foldl_append, List.foldl_cons, List.foldl_nil]
    by_cases hk : n = k
    · rw [← hk, if_pos hp]
    · rw [hlast k (by omega) (by omega), ih (by omega) fun m hm hmk => hlast m hm (by omega)]
      rfl

theorem bit_requestMask (w : Word) {n : Nat} (h : n < 8) : bit (w &&& 0xFF00) (8 + n) = bit w (8 + n) := by
  have ones : ∀ j : Fin 8, bit 0xFF00 (8 + j) = true := by decide
  rw [bit_and, ones ⟨n, h⟩, Bool.and_true]

section

variable {s : State} {n : Nat}

/-- R475: the highest request that Status.IM lets through. -/
theorem highestRequest_eq (hn : n < 8) (hreq : bit (causeRead s &&& s.cp0.status) (8 + n) = true)
    (hlast : ∀ m, n < m → m < 8 → bit (causeRead s &&& s.cp0.status) (8 + m) = false) :
    highestRequest (enabledRequests s) = n :=
  foldl_last_below (p := fun i => bit (enabledRequests s) (8 + i)) hn ((bit_requestMask _ hn).trans hreq) fun m hm h8 =>
    (bit_requestMask _ h8).trans (hlast m hm h8)

theorem interruptOffset_plain (hiv : bit s.cp0.cause 23 = false) : interruptOffset s = BitVec.ofNat 32 0x180 := by
  simp [interruptOffset, hiv]

theorem interruptOffset_special (hiv : bit s.cp0.cause 23 = true) (h : s.bev = true ∨ s.vs = 0) :
    interruptOffset s = BitVec.ofNat 32 0x200 := by
  rcases h with h | h <;> simp [interruptOffset, hiv, h]

theorem interruptOffset_vectored (hiv : bit s.cp0.cause 23 = true) (hbev : s.bev = false) (hvs : s.vs ≠ 0) :
    interruptOffset s = BitVec.ofNat 32 (0x200 + highestRequest (enabledRequests s) * (32 * s.vs)) := by
  rw [Nat.mul_comm 32, BitVec.ofNat_add]
  simp [interruptOffset, hiv, hbev, hvs]

/-! ### The step that takes an interrupt (R480, R485) -/

theorem interruptDue_iff : interruptDue s = true ↔ s.ie = true ∧ s.exl = false ∧ s.erl = false ∧ s.dm = false ∧
    bit s.drseg.dcr 4 = true ∧ enabledRequests s ≠ 0 := by
  simp [interruptDue, and_assoc]

theorem vsLegal_iff {v : Nat} : vsLegal v = true ↔ v ∈ [0, 1, 2, 4, 8, 16] := by
  simp [vsLegal, or_assoc]

/-- R485: an interrupt with a legal vector spacing. -/
theorem takeInterrupt_legal (h : bit s.cp0.cause 23 = true → s.bev = false → s.vs ∈ [0, 1, 2, 4, 8, 16]) :
    takeInterrupt s = .next (takeException (.int (interruptOffset s)) s) := by
  refine if_neg fun refused => ?_
  simp only [Bool.and_eq_true, Bool.not_eq_true'] at refused
  obtain ⟨⟨hiv, hbev⟩, illegal⟩ := refused
  rw [vsLegal_iff.2 (h hiv hbev)] at illegal
  cases illegal

/-- R466: with no condition before it a due interrupt is taken, and ends a wait. -/
theorem runOrInterrupt_interrupt (hd : deferredWatchDue s = false) (hi : interruptDue s = true) :
    runOrInterrupt s = takeInterrupt s.awake := by
  obtain ⟨-, -, -, -, -, hreq⟩ := interruptDue_iff.1 hi
  have hd' : deferredWatchDue s.awake = false := hd
  have hi' : interruptDue s.awake = true := hi
  have goesOn : ¬(s.waiting && !wakeDue s) = true := by simp [wakeDue_iff.2 (.inl hreq)]
  unfold runOrInterrupt
  rw [if_neg goesOn]
  exact (if_neg (ne_true_of_eq_false hd')).trans (if_pos hi')

/-- The completion of a step is recorded in `stepped` alone (R626). -/
theorem completed_rest (before after : State) :
    completed before after = { after with stepped := (completed before after).stepped } := by
  unfold completed
  split <;> rfl

/-- R466: an undisturbed core with a due interrupt and nothing to store takes it in this step. -/
theorem step_interrupt (hu : Undisturbed s) (hi : interruptDue s = true)
    (hv : bit s.cp0.cause 23 = true → s.bev = false → s.vs ∈ [0, 1, 2, 4, 8, 16]) (hb : s.wbuf = []) :
    step s = .next (completed s (exceptionEntry (.int (interruptOffset s)) s.awake)) := by
  obtain ⟨-, -, -, hdm, -, -⟩ := interruptDue_iff.1 hi
  have hdm' : s.awake.dm = false := hdm
  have taken : takeInterrupt s.awake = .next (takeException (.int (interruptOffset s)) s.awake) := takeInterrupt_legal hv
  have hempty : (completed s (exceptionEntry (.int (interruptOffset s)) s.awake)).wbuf = [] := by rw [completed_rest]; exact hb
  rw [step_running hu.turn hu.noReset hu.clock hu.noDoze, stepRunning_undisturbed hu,
    runOrInterrupt_interrupt hu.noDeferredWatch hi, taken, takeException_outside _ _ hdm']
  exact settled_empty hempty

/-! ### The step that takes an NMI (R500) -/

theorem step_nmi (ha : s.agenda = []) (hr : s.resetReq = none) (hp : s.powerMode = .normal)
    (hl : bit (s.ioGet Adr.LCR) 2 = false) (hn : s.nmiReq = true) (hdm : s.dm = false) (hb : s.wbuf = []) :
    step s = .next (completed s (nmiEntry s)) := by
  have due : nmiDue s = true := by simp [nmiDue, hn, hdm]
  have hempty : (completed s (nmiEntry s)).wbuf = [] := by rw [completed_rest]; exact hb
  have run : stepRunning s = .next (nmiEntry s) := if_pos due
  rw [step_running ha hr hp hl, run]
  exact settled_empty hempty

/-- R500: Status after the entry: BEV, NMI and ERL are set, TS and SR cleared, the other bits kept. -/
theorem bit_nmiEntry (s : State) {i : Nat} (h : i < 32) : bit (nmiEntry s).cp0.status i =
    if i ∈ [22, 19, 2] then true else if i ∈ [21, 20] then false else bit s.cp0.status i := by
  have masks : ∀ j : Fin 32, bit 0x00480004#32 j = decide (j.val ∈ [22, 19, 2]) ∧
      bit 0x00380000#32 j = decide (j.val ∈ [21, 20, 19]) := by decide
  obtain ⟨set, clear⟩ : bit 0x00480004#32 i = decide (i ∈ [22, 19, 2]) ∧
      bit 0x00380000#32 i = decide (i ∈ [21, 20, 19]) := masks ⟨i, h⟩
  change bit ((s.cp0.status &&& ~~~(0x00380000#32)) ||| 0x00480004#32) i = _
  rw [bit_or, bit_and, bit_not _ h, set, clear]
  by_cases hset : i ∈ [22, 19, 2]
  · simp [hset]
  · have h19 : i ≠ 19 := fun h19 => hset (by simp [h19])
    have hclear : i ∈ [21, 20, 19] ↔ i ∈ [21, 20] := by simp [h19]
    by_cases h21 : i ∈ [21, 20] <;> simp [hset, hclear, h21]

end

/-- Settles O46: the step is the entry of the interrupt or of the NMI, with the core no longer waiting. -/
theorem interruptTaken : Obligations.InterruptTaken := by
  refine ⟨fun s hu => ?interrupt, fun s ha hr hp hl hn hdm hb => ?nmi⟩
  case interrupt =>
    intro vs iv requests hie hexl herl hdm hint hreq hlegal hb
    have due : interruptDue s = true := interruptDue_iff.2 ⟨hie, hexl, herl, hdm, hint, hreq⟩
    have hexl' : s.awake.exl = false := hexl
    obtain ⟨hepc, hpc⟩ := exceptionEntry_exl0 (e := .int (interruptOffset s)) hexl'
    have status : (exceptionEntry (.int (interruptOffset s)) s.awake).cp0.status = s.cp0.status ||| 2 :=
      exceptionCp0_status _ _
    have exlSet : bit (s.cp0.status ||| 2) 1 = true := by rw [bit_or]; exact Bool.or_true _
    rw [step_interrupt hu due hlegal hb, completed_rest]
    refine ⟨_, rfl, (congrArg (bit · 1) status).trans exlSet, exceptionCp0_code _ _, hepc,
      ⟨(interruptOffset s).toNat, ?pc, fun hiv => ?plain, fun hiv h => ?special, fun hiv hbev hvs n hn hreq hlast => ?vectored⟩,
      rfl, rfl, rfl, fun _ => rfl⟩
    case pc => rw [BitVec.ofNat_toNat, BitVec.setWidth_eq]; exact hpc
    case plain => rw [interruptOffset_plain hiv]; rfl
    case special => rw [interruptOffset_special hiv h]; rfl
    case vectored =>
      have hvs32 : s.vs < 32 := (s.cp0.intCtl.extractLsb' 5 5).isLt
      have fits : n * (32 * s.vs) ≤ 7 * (32 * 31) := Nat.mul_le_mul (by omega) (by omega)
      rw [interruptOffset_vectored hiv hbev hvs, highestRequest_eq hn hreq hlast, BitVec.toNat_ofNat]
      exact Nat.mod_eq_of_lt (by omega)
  case nmi =>
    rw [step_nmi ha hr hp hl hn hdm hb, completed_rest]
    exact ⟨_, rfl, rfl, fun i hi => bit_nmiEntry s hi, rfl⟩

end Sys2Proof.Machine
end

section
/-! SUPPORT. What an instruction can do in user mode without coprocessor 0 (60_exceptions.md R462, R463): it leaves the TLB, the
registers that steer translation and vectors, and the mode alone, until it enters an exception. -/

namespace Sys2Proof.Machine

/-- What user mode must leave alone: the TLB, and of coprocessor 0 what steers translation and vectors. -/
def State.guarded (s : State) :
    Vector TlbEntry 32 × Word × Word × Bool × BitVec 3 × Word × Word × Word × Word × BitVec 8 :=
  (s.tlb, s.cp0.ebase, s.cp0.intCtl, bit s.cp0.cause 23, s.cp0.k0, s.cp0.wired, s.cp0.pageMask, s.cp0.entryLo0, s.cp0.entryLo1,
    s.asid)

/-- What an instruction may do in user mode before it enters an exception. -/
structure UserStep (s t : State) : Prop where
  guarded : t.guarded = s.guarded
  status : t.cp0.status = s.cp0.status
  debugReg : t.cp0.debug = s.cp0.debug

/-- Where an instruction may end in user mode: still there, or in an exception or a debug exception. -/
inductive UserEnd (s : State) : State → Prop
  | stays {t : State} (h : UserStep s t) : UserEnd s t
  | exception {t : State} (e : Exc) (h : UserStep s t) : UserEnd s (takeException e t)
  | debugException {t : State} (c : DebugCause) (h : UserStep s t) : UserEnd s (debugEntry c t)

/-- The next state of an outcome, if there is one, is one in which an instruction may end in user mode. -/
def Confined (s : State) : Out → Prop
  | .next t => UserEnd s t
  | .fault _ => True
  | .refused _ => True

section

variable {α : Type} {s t u : State}

theorem UserStep.refl (s : State) : UserStep s s := ⟨rfl, rfl, rfl⟩

theorem UserStep.trans (h : UserStep s t) (k : UserStep t u) : UserStep s u :=
  ⟨k.guarded.trans h.guarded, k.status.trans h.status, k.debugReg.trans h.debugReg⟩

theorem UserStep.of_eq (htlb : t.tlb = s.tlb) (hcp0 : t.cp0 = s.cp0) : UserStep s t := by
  refine ⟨?_, by rw [hcp0], by rw [hcp0]⟩
  simp only [State.guarded, State.asid, htlb, hcp0]

theorem UserStep.dm (h : UserStep s t) : t.dm = s.dm := congrArg (bit · 30) h.debugReg

theorem UserStep.userMode (h : UserStep s t) : t.userMode = s.userMode := by
  simp only [State.userMode, State.um, State.exl, State.erl, h.dm, h.status]

/-! ### Accesses -/

theorem BusStep.userStep (h : BusStep s t) : UserStep s t :=
  .of_eq (congrArg CoreView.tlb h.core :) (congrArg CoreView.cp0 h.core :)

theorem UserStep.bus {r : Res α} (h : UserStep s t) (k : r.All (BusStep t)) : r.All (UserStep s) :=
  k.mono fun _ x => h.trans x.userStep

theorem UserStep.setDline {k : Nat} {l : CacheLine} (h : UserStep s t) : UserStep s (t.setDline k l) := h.trans (.of_eq rfl rfl)

theorem UserStep.setIline {k : Nat} {l : CacheLine} (h : UserStep s t) : UserStep s (t.setIline k l) := h.trans (.of_eq rfl rfl)

theorem UserStep.drawn {n : Nat} (h : UserStep s t) : UserStep s (t.drawn n) := h.trans (.of_eq rfl rfl)

theorem Res.All.ite {P : State → Prop} {c : Prop} [Decidable c] {a b : Res α} (ha : a.All P) (hb : b.All P) :
    (if c then a else b).All P := by split <;> assumption

theorem writeBackDirty_user {set : Nat} {l : CacheLine} (h : UserStep s t) : (writeBackDirty set l t).All (UserStep s) :=
  .ite (.ite (h.bus (coreWriteWords_bus (.refl t))) True.intro) h

theorem dLookup_user {pa : Nat} (h : UserStep s t) : (dLookup pa t).All (UserStep s) := by
  refine .ite ?_ True.intro
  split
  · exact h
  · exact (writeBackDirty_user h.drawn).bind fun _ _ h1 =>
      (h1.bus (coreReadWords_bus (.refl _))).bind fun _ _ h2 => h2.setDline

theorem dcacheRead_user {n pa : Nat} (h : UserStep s t) : (dcacheRead n pa t).All (UserStep s) :=
  (dLookup_user h).bind fun _ _ h1 => h1

theorem updateHit_user {pa : Nat} {bs : List Byte} (h : UserStep s t) : UserStep s (updateHit pa bs t) := by
  unfold updateHit
  split
  · exact h.setDline
  · exact h

theorem dcacheWrite_user {bs : List Byte} {pa : Nat} {c : BitVec 3} (h : UserStep s t) :
    (dcacheWrite bs pa c t).All (UserStep s) :=
  .ite (.ite ((updateHit_user h).bus (coreWrite_bus (.refl _))) True.intro) ((dLookup_user h).bind fun _ _ h1 => h1.setDline)

/-- A data breakpoint that matches is recorded in DBS, which user mode may change. -/
theorem breakpoint_user {k : Kind} {c : Prop} [Decidable c] (h : UserStep s t) :
    (if c then dbTake k t else .ok () t).All (UserStep s) :=
  have recorded : UserStep s { t with drseg := { t.drseg with dbs := t.drseg.dbs ||| 1 } } := h.trans (.of_eq rfl rfl)
  .ite (.ite recorded recorded) (.okI h)

/-- User mode is outside debug mode, with EXL = ERL = 0 (R462). -/
theorem userMode_iff : s.userMode = true ↔ s.dm = false ∧ s.um = true ∧ s.exl = false ∧ s.erl = false := by
  simp [State.userMode, and_assoc]

/-- R491: in user mode a watch match is not deferred, so Cause keeps its value. -/
theorem watchCheck_user {va : Word} {k : Kind} (hu : s.userMode = true) : (watchCheck va k s).All (UserStep s) := by
  obtain ⟨-, -, hexl, herl⟩ := userMode_iff.1 hu
  unfold watchCheck
  split
  · simp only [hexl, herl]
    exact ⟨rfl, rfl, rfl⟩
  · exact .refl s

theorem prepare_user {k : Kind} {va : Word} {l : Lanes} (hu : s.userMode = true) : (prepare k va l s).All (UserStep s) := by
  refine translate_same.bindOf (fun t ht => ht ▸ .refl s) fun _ t ht => ?_
  subst ht
  exact (watchCheck_user hu).bind fun _ _ h => (breakpoint_user h).bind fun _ _ h => h

theorem readLanes_user {va : Word} {l : Lanes} (hu : s.userMode = true) : (readLanes va l s).All (UserStep s) := by
  obtain ⟨hdm, -, -, -⟩ := userMode_iff.1 hu
  unfold readLanes
  rw [dataDseg_outside hdm]
  exact (prepare_user hu).bind fun _ _ h =>
    (Res.All.ite (h.bus (coreRead_bus (.refl _))) (dcacheRead_user h)).bind fun _ _ h =>
      (breakpoint_user h).bind fun _ _ h => h

theorem writeLanes_user {va v : Word} {l : Lanes} (hu : s.userMode = true) : (writeLanes va l v s).All (UserStep s) := by
  obtain ⟨hdm, -, -, -⟩ := userMode_iff.1 hu
  unfold writeLanes
  rw [dataDseg_outside hdm]
  exact (prepare_user hu).bind fun _ _ h => (breakpoint_user h).bind fun _ _ h =>
    .ite (h.bus (coreWrite_bus (.refl _))) (dcacheWrite_user h)

theorem memReadPa_user {va : Word} {n : Nat} (hu : s.userMode = true) : (memReadPa va n s).All (UserStep s) :=
  .ite (readLanes_user hu) (.refl s)

theorem memWrite_user {va v : Word} {n : Nat} (hu : s.userMode = true) : (memWrite va n v s).All (UserStep s) :=
  .ite (writeLanes_user hu) (.refl s)

theorem translate_user {va : Word} {k : Kind} : (translate va k s).All (UserStep s) :=
  translate_same.mono fun _ h => h ▸ .refl s

theorem checkStore_user {va : Word} : (checkStore va s).All (UserStep s) :=
  .ite (.refl s) (.ite (.refl s) (translate_user.bind fun _ _ h => h))

theorem onHit_user {o : Option Nat} {f : Nat → State → Res Unit} (h : UserStep s t) (hf : ∀ k, (f k t).All (UserStep s)) :
    (onHit o f t).All (UserStep s) := by
  unfold onHit
  split
  · exact h
  · exact hf _

theorem dClean_user {key set : Nat} (h : UserStep s t) : (dClean key set t).All (UserStep s) :=
  (writeBackDirty_user h).bind fun _ _ h1 => by
    show UserStep s (if _ then _ else _)
    split
    · exact h1.setDline
    · exact h1

theorem synciEffect_user {pa : Nat} (h : UserStep s t) : (synciEffect pa t).All (UserStep s) :=
  (onHit_user h fun _ => dClean_user h).bind fun _ _ h1 => onHit_user h1 fun _ => h1.setIline

/-! ### The shapes that instructions share -/

theorem Confined.ite {c : Prop} [Decidable c] {a b : Out} (ha : Confined s a) (hb : Confined s b) :
    Confined s (if c then a else b) := by split <;> assumption

theorem done_confined (h : UserStep s t) : Confined s (done t) := .stays (h.trans (.of_eq rfl rfl))

theorem setReg_user {rd : Reg} {v : Word} : UserStep s (s.setReg rd v) := .of_eq (s.setReg_tlb rd v) (s.setReg_cp0 rd v)

theorem writeResult_confined {rd : Reg} {v : Word} (h : UserStep s t) : Confined s (writeResult rd v t) :=
  done_confined (h.trans setReg_user)

theorem raise_confined {e : Exc} (h : UserStep s t) : Confined s (raise e t) := .exception e h

theorem branch_confined {taken : Bool} {off : Imm16} (h : UserStep s t) : Confined s (branch taken off t) :=
  .ite True.intro (.stays (h.trans (by cases taken <;> exact .of_eq rfl rfl)))

theorem branchLikely_confined {taken : Bool} {off : Imm16} (h : UserStep s t) : Confined s (branchLikely taken off t) :=
  .ite True.intro (.stays (h.trans (by cases taken <;> exact .of_eq rfl rfl)))

theorem jump_confined {a : Word} (h : UserStep s t) : Confined s (jump a t) :=
  .ite True.intro (.stays (h.trans (.of_eq rfl rfl)))

/-- An instruction built on an access: the access, then the rest of the instruction or the exception. -/
theorem out_confined {r : Res α} {k : α → State → Out} (hr : r.All (UserStep s))
    (hk : ∀ a t, UserStep s t → Confined s (k a t)) :
    Confined s (r.out k) := by
  cases r with
  | ok a t => exact hk a t hr
  | exc e t => exact .exception e hr
  | dbg c t => exact .debugException c hr
  | stall t => exact .stays hr
  | fault _ => exact True.intro
  | refused _ => exact True.intro

theorem load_confined {rt base : Reg} {off : Imm16} {n : Nat} {ext : Word → Word} (hu : s.userMode = true) :
    Confined s (load rt base off n ext s) :=
  out_confined ((memReadPa_user hu).bind fun _ _ h => h) fun _ _ h => writeResult_confined h

theorem store_confined {rt base : Reg} {off : Imm16} {n : Nat} (hu : s.userMode = true) : Confined s (store rt base off n s) :=
  out_confined (memWrite_user hu) fun _ _ h => done_confined h

theorem privileged_confined {k : Out} (h : s.cp0Usable = false) : Confined s (privileged s k) := by
  rw [privileged_unusable h]
  exact .exception _ (.refl s)

/-! ### Every instruction -/

theorem execSynci_confined {base : Reg} {off : Imm16} : Confined s (execSynci base off s) :=
  .ite (done_confined (.refl s)) (out_confined (translate_user.bind fun _ _ h => .ite h (synciEffect_user h))
    fun _ _ h => done_confined h)

theorem execSdbbp_confined {code : BitVec 20} (hu : s.userMode = true) : Confined s (execSdbbp code s) := by
  obtain ⟨hdm, -, -, -⟩ := userMode_iff.1 hu
  unfold execSdbbp
  rw [if_neg (by simp [hdm])]
  exact .debugException .dbp (.refl s)

theorem exec_confined (i : Instr) (hu : s.userMode = true) (hcp0 : s.cp0Usable = false) : Confined s (exec i s) := by
  have same : UserStep s s := .refl s
  cases i with
  | add | addi | sub => exact .ite (raise_confined same) (writeResult_confined same)
  | addu | addiu | subu | slti | sltiu | slt | sltu => exact writeResult_confined same
  | and | andi | or | ori | xor | xori | nor | lui | clz | clo | seb | seh | wsbh => exact writeResult_confined same
  | sll | sllv | srl | srlv | sra | srav | rotr | rotrv | mfhi | mflo => exact writeResult_confined same
  | movz | movn => exact .ite (writeResult_confined same) (done_confined same)
  | ext | ins => exact .ite (writeResult_confined same.drawn) (writeResult_confined same)
  | mult | multu | madd | maddu | msub | msubu | mthi | mtlo => exact done_confined (.of_eq rfl rfl)
  | div | divu => exact .ite (done_confined (.of_eq rfl rfl)) (done_confined (.of_eq rfl rfl))
  | mul => exact writeResult_confined (.of_eq rfl rfl)
  | j | jr => exact jump_confined same
  | jal => exact jump_confined setReg_user
  | jalr => exact .ite True.intro (.ite True.intro (jump_confined setReg_user))
  | beq | bne | blez | bgtz | bltz | bgez => exact branch_confined same
  | beql | bnel | blezl | bgtzl | bltzl | bgezl => exact branchLikely_confined same
  | bltzal | bgezal => exact .ite True.intro (.ite True.intro (branch_confined setReg_user))
  | bltzall | bgezall => exact .ite True.intro (.ite True.intro (branchLikely_confined setReg_user))
  | lb | lbu | lh | lhu | lw => exact load_confined hu
  | sb | sh | sw => exact store_confined hu
  | lwl | lwr => exact out_confined (readLanes_user hu) fun _ _ h => writeResult_confined h
  | swl | swr => exact out_confined (writeLanes_user hu) fun _ _ h => done_confined h
  | ll => exact out_confined (memReadPa_user hu) fun _ _ h => writeResult_confined (h.trans ⟨rfl, rfl, rfl⟩)
  | sc => exact out_confined (.ite (memWrite_user hu) checkStore_user) fun _ _ h => writeResult_confined h
  | pref => exact done_confined same
  | sync => exact out_confined (same.bus (drainAll_bus (.refl s))) fun _ _ h => done_confined h
  | synci => exact execSynci_confined
  | tge | tgeu | tlt | tltu | teq | tne | tgei | tgeiu | tlti | tltiu | teqi | tnei =>
    exact .ite (raise_confined same) (done_confined same)
  | syscall | brk | rdhwr => exact raise_confined same
  | cop1 | cop2 | cop1x | lwc1 | lwc2 | ldc1 | ldc2 | swc1 | swc2 | sdc1 | sdc2 | movci => exact raise_confined same
  | sdbbp code => exact execSdbbp_confined (code := code) hu
  | cache | mfc0 | mtc0 | rdpgpr | wrpgpr | di | ei | tlbr | tlbwi | tlbwr | tlbp | eret | deret | wait =>
    exact privileged_confined hcp0

/-! ### Entering an exception -/

/-- R43, R470: an exception leaves Cause.IV alone. -/
theorem exceptionCp0_iv (e : Exc) (s : State) : bit (exceptionCp0 e s).cause 23 = bit s.cp0.cause 23 := by
  have kept : bit (exceptionCause e s) 23 = bit s.cp0.cause 23 := by
    rw [exceptionCause, bit_putField_out _ _ (by omega) (by omega), bit_putField_out _ _ (by omega) (by omega)]
  rw [exceptionCp0_cause]
  split
  · exact kept
  · rw [bit_setBit _ _ (by omega), if_neg (by omega), kept]

/-- R472: an exception leaves the address space alone. -/
theorem exceptionCp0_asid (e : Exc) (s : State) : (exceptionCp0 e s).entryHi.setWidth 8 = s.asid := by
  rw [exceptionCp0_entryHi]
  unfold Cp0.recordAddr
  split
  · rfl
  · split
    · exact putVpn2_asid _ _
    · rfl

theorem takeException_guarded (e : Exc) (h : s.dm = false) : (takeException e s).guarded = s.guarded := by
  have asid : (takeException e s).asid = s.asid := by rw [State.asid, takeException_cp0 e s h, exceptionCp0_asid]
  simp only [State.guarded, asid, takeException_tlb, takeException_cp0 e s h, exceptionCp0_iv]
  rw [exceptionCp0_rest, Cp0.recordAddr_rest]

theorem takeException_status (e : Exc) (h : s.dm = false) : (takeException e s).cp0.status = s.cp0.status ||| 2 := by
  rw [takeException_cp0 e s h, exceptionCp0_status]

end

/-- R463: wherever an instruction ends in user mode, the guarded state is kept, and the mode is left by an exception alone. -/
theorem UserEnd.isolated {s t : State} (h : UserEnd s t) (hu : s.userMode = true) : t.guarded = s.guarded ∧
    (t.cp0.status = s.cp0.status ∨ t.cp0.status = s.cp0.status ||| 2) ∧
    (t.userMode = true ∨ t.exl = true ∨ t.dm = true) := by
  obtain ⟨hdm, -, -, -⟩ := userMode_iff.1 hu
  cases h with
  | stays h => exact ⟨h.guarded, .inl h.status, .inl (h.userMode.trans hu)⟩
  | exception e h =>
    have status := takeException_status e (h.dm.trans hdm)
    refine ⟨(takeException_guarded e (h.dm.trans hdm)).trans h.guarded, .inr (by rw [status, h.status]), .inr (.inl ?_)⟩
    rw [State.exl, status, bit_or]
    exact Bool.or_true _
  | debugException c h => exact ⟨h.guarded, .inl h.status, .inr (.inr ((bit_debugEntry _ c (by decide)).trans (by simp)))⟩

/-- Settles O57: every instruction is confined in user mode, since all that could do more ask `privileged` first. -/
theorem userModeIsolated : Obligations.UserModeIsolated := by
  intro s t i hu hcu0 hstep
  have hcp0 : s.cp0Usable = false := by simp [State.cp0Usable, hu, hcu0]
  have confined := exec_confined i hu hcp0
  rw [hstep] at confined
  obtain ⟨guarded, status, mode⟩ := UserEnd.isolated confined hu
  simp only [State.guarded, Prod.mk.injEq] at guarded
  obtain ⟨tlb, ebase, intCtl, iv, k0, wired, pageMask, entryLo0, entryLo1, asid⟩ := guarded
  exact ⟨tlb, ebase, intCtl, iv, k0, wired, pageMask, entryLo0, entryLo1, asid, status, mode⟩

end Sys2Proof.Machine
end

section
/-! SUPPORT. Device registers: reading after writing. The masks and requests of the INTC (61_platform.md R551, 60_exceptions.md
R482), and the channels of the OST (61_platform.md R560 to R565). -/

namespace Sys2Proof.Machine

/-! ### Reading a device register after a write -/

section

variable {s : State} {a b : Nat}

theorem IoOk.ioSet (h : IoOk s) (a : Nat) (v : Word) : IoOk (s.ioSet a v) := (DevStep.refl s).ioSet.io h

theorem ioGet_ioSet_same (h : IoOk s) (a : Nat) (v : Word) : (s.ioSet a v).ioGet a = v := Sparse.get_set_self _ a v s.io h

theorem ioGet_ioSet_other (hne : b ≠ a) (v : Word) : (s.ioSet a v).ioGet b = s.ioGet b := Sparse.get_set_ne _ v s.io hne

theorem ioGet_ioMod_other (hne : b ≠ a) (set clear : Word) : (s.ioMod a set clear).ioGet b = s.ioGet b :=
  ioGet_ioSet_other hne _

theorem ioGet_ioMod_set (h : IoOk s) (a : Nat) (set : Word) : (s.ioMod a set 0).ioGet a = s.ioGet a ||| set :=
  calc (s.ioMod a set 0).ioGet a = (s.ioGet a &&& BitVec.allOnes 32) ||| set := ioGet_ioSet_same h a _
    _ = s.ioGet a ||| set := by rw [BitVec.and_allOnes]

theorem ioGet_ioMod_clear (h : IoOk s) (a : Nat) (clear : Word) : (s.ioMod a 0 clear).ioGet a = s.ioGet a &&& ~~~clear :=
  (ioGet_ioSet_same h a _).trans BitVec.or_zero

end

/-! ### INTC (R551, R482) -/

section

variable (mask v : Word) (s : State)

theorem writeIntc_icmsr : writeIntc Adr.ICMSR mask v s = s.ioMod Adr.ICMR v 0 := rfl
theorem writeIntc_icmcr : writeIntc Adr.ICMCR mask v s = s.ioMod Adr.ICMR 0 v := rfl
theorem readIntc_icsr : (readIntc Adr.ICSR s).1 = icsr s := rfl
theorem readIntc_icpr : (readIntc Adr.ICPR s).1 = icpr s := rfl

/-- R482: IP[2] shows the request line beside what Cause stores. -/
theorem bit_causeRead_ip2 : bit (causeRead s) 10 = (bit s.cp0.cause 10 || irqLine s) := by
  rw [causeRead, bit_or, bit_flag _ (by decide), decide_eq_true rfl, Bool.and_true]

theorem irqLine_eq : irqLine s = decide (icpr s ≠ 0) := by simp [irqLine, bne, beq_eq_decide]

end

/-- Settles O59: ICMSR and ICMCR are the two modifications of ICMR, and Cause shows the line beside its own bits. -/
theorem interruptMask : Obligations.InterruptMask := by
  intro s v hio
  rw [writeIntc_icmsr, writeIntc_icmcr, readIntc_icsr, readIntc_icpr]
  refine ⟨ioGet_ioMod_set hio _ v, ioGet_ioMod_clear hio _ v, rfl, ?_⟩
  rw [← irqLine_eq]
  exact bit_causeRead_ip2 s

/-! ### The registers of the OST (R561) -/

section

variable (n m : BitVec 2)

theorem otcnt_ne_otcsr : otcnt n ≠ otcsr m := by simp only [otcnt, otcsr, Adr.OTCNT0, Adr.OTCSR0]; omega
theorem otdr_ne_otcsr : otdr n ≠ otcsr m := by simp only [otdr, otcsr, Adr.OTDR0, Adr.OTCSR0]; omega
theorem otdr_ne_otcnt : otdr n ≠ otcnt m := by simp only [otdr, otcnt, Adr.OTDR0, Adr.OTCNT0]; omega
theorem oter_ne_otcsr : Adr.OTER ≠ otcsr m := by simp only [otcsr, Adr.OTER, Adr.OTCSR0]; omega

theorem otcsr_injective {n m : BitVec 2} (h : otcsr n = otcsr m) : n = m := by
  simp only [otcsr] at h
  exact BitVec.eq_of_toNat_eq (by omega)

/-- `a` is the counter or the reload register of channel `n`. -/
structure IsOstData (a : Nat) (n : BitVec 2) : Prop where
  channel : ostChannel a = n
  notControl : ∀ m, a ≠ otcsr m
  notEnable : Adr.OTER ≠ a

theorem isOstData_otcnt : IsOstData (otcnt n) n where
  channel := by revert n; decide
  notControl := otcnt_ne_otcsr n
  notEnable := by simp only [otcnt, Adr.OTER, Adr.OTCNT0]; omega

theorem isOstData_otdr : IsOstData (otdr n) n where
  channel := by revert n; decide
  notControl := otdr_ne_otcsr n
  notEnable := by simp only [otdr, Adr.OTER, Adr.OTDR0]; omega

end

/-! ### One tick (R564) -/

section

variable {s : State} {n : BitVec 2}

theorem ostTick_counts (hn : n.toNat < 3) (he : ostEnabled s n = true) (hc : ostClockRuns s n = true)
    (h : s.ioGet (otcnt n) ≠ 0) : ostTick n s = s.ioSet (otcnt n) (s.ioGet (otcnt n) - 1) := by
  rw [ostTick, if_pos (by simp [hn, he, hc]), if_neg h]

theorem ostTick_reloads (hn : n.toNat < 3) (he : ostEnabled s n = true) (hc : ostClockRuns s n = true)
    (h : s.ioGet (otcnt n) = 0) :
    ostTick n s = (s.ioSet (otcnt n) (s.ioGet (otdr n))).ioMod (otcsr n) (one 6) 0 := by
  rw [ostTick, if_pos (by simp [hn, he, hc]), if_pos h]

theorem ostTick_stands (h : ostEnabled s n = false ∨ ostClockRuns s n = false) : ostTick n s = s := by
  rcases h with h | h <;> simp [ostTick, h]

/-- R564: a tick touches OTCNT and OTCSR of its channel alone. -/
theorem ostTick_other {a : Nat} (hcnt : a ≠ otcnt n) (hcsr : a ≠ otcsr n) : (ostTick n s).ioGet a = s.ioGet a := by
  unfold ostTick
  split
  · split
    · rw [ioGet_ioMod_other hcsr, ioGet_ioSet_other hcnt]
    · exact ioGet_ioSet_other hcnt _
  · rfl

/-! ### Writes of the counter and the reload register (R563, R565) -/

theorem ostAsync_iff : ostAsync s n = true ↔ field (s.ioGet (otcsr n)) 0 3 ∈ [4, 5] := by simp [ostAsync, ckc]

/-- SF stands above CKC. -/
theorem ckc_setSf (h : IoOk s) (n m : BitVec 2) : ckc (s.ioMod (otcsr n) (one 7) 0) m = ckc s m := by
  unfold ckc
  by_cases hm : m = n
  · subst hm
    rw [ioGet_ioMod_set h]
    exact field_setBit_other (s.ioGet (otcsr m)) true (by omega) (by omega)
  · rw [ioGet_ioMod_other fun e => hm (otcsr_injective e)]

/-- U28 looks at OTER and the clock codes alone. -/
theorem reservedCkc_congr {t : State} (hoter : t.ioGet Adr.OTER = s.ioGet Adr.OTER) (hckc : ∀ m, ckc t m = ckc s m) :
    reservedCkc t = reservedCkc s := by
  simp only [reservedCkc, ostEnabled, hoter, hckc]

/-- R563, R565: `s` after `v` has been written to the data register at `a` of channel `n`. -/
def ostStored (a : Nat) (n : BitVec 2) (v : Word) (s : State) : State :=
  if a = otcnt n ∧ field (s.ioGet (otcsr n)) 0 3 ∈ [4, 5] then (s.ioSet a v).ioMod (otcsr n) (one 7) 0 else s.ioSet a v

variable {a : Nat} {v : Word}

theorem ckc_ioSet_data (ha : IsOstData a n) (m : BitVec 2) : ckc (s.ioSet a v) m = ckc s m := by
  rw [ckc, ioGet_ioSet_other (ha.notControl m).symm, ckc]

theorem ckc_ostStored (h : IoOk s) (ha : IsOstData a n) (m : BitVec 2) : ckc (ostStored a n v s) m = ckc s m := by
  unfold ostStored
  split
  · rw [ckc_setSf (h.ioSet a v), ckc_ioSet_data ha]
  · exact ckc_ioSet_data ha m

theorem ostStored_oter (ha : IsOstData a n) : (ostStored a n v s).ioGet Adr.OTER = s.ioGet Adr.OTER := by
  unfold ostStored
  split
  · rw [ioGet_ioMod_other (oter_ne_otcsr n), ioGet_ioSet_other ha.notEnable]
  · exact ioGet_ioSet_other ha.notEnable v

/-- R563: of the writes of a data register, that of OTCNT under an asynchronous clock sets SF. -/
theorem ostSyncStarts_data (ha : IsOstData a n) : ostSyncStarts a n s (s.ioSet a v) = true ↔
    a = otcnt n ∧ field (s.ioGet (otcsr n)) 0 3 ∈ [4, 5] := by
  rw [← ostAsync_iff]
  simp [ostSyncStarts, ostAsync, ckc_ioSet_data ha]

theorem writeOst_data (h : IoOk s) (ha : IsOstData a n) (hr : reservedCkc s = false) :
    writeOst a 0xFFFFFFFF v s = .ok () (ostStored a n v s) := by
  have kept : reservedCkc (ostStored a n v s) = false :=
    (reservedCkc_congr (ostStored_oter ha) (ckc_ostStored h ha)).trans hr
  have stored : (if ostSyncStarts a n s (s.ioSet a v) = true then (s.ioSet a v).ioMod (otcsr n) (one 7) 0 else s.ioSet a v) =
      ostStored a n v s := if_congr (ostSyncStarts_data ha) rfl rfl
  simp only [writeOst, ha.channel, if_neg (ha.notControl n), plainWrite, masked_all, stored, kept, Bool.false_eq_true, if_false]

theorem ostStored_same (h : IoOk s) (ha : IsOstData a n) : (ostStored a n v s).ioGet a = v := by
  unfold ostStored
  split
  · rw [ioGet_ioMod_other (ha.notControl n), ioGet_ioSet_same h]
  · exact ioGet_ioSet_same h a v

theorem ostStored_other {b : Nat} (hb : b ≠ a) (hcsr : b ≠ otcsr n) : (ostStored a n v s).ioGet b = s.ioGet b := by
  unfold ostStored
  split
  · rw [ioGet_ioMod_other hcsr, ioGet_ioSet_other hb]
  · exact ioGet_ioSet_other hb v

theorem ostStored_otcsr (h : IoOk s) (ha : IsOstData a n) : (ostStored a n v s).ioGet (otcsr n) =
    s.ioGet (otcsr n) ||| (if a = otcnt n ∧ field (s.ioGet (otcsr n)) 0 3 ∈ [4, 5] then 0x80 else 0) := by
  have kept : (s.ioSet a v).ioGet (otcsr n) = s.ioGet (otcsr n) := ioGet_ioSet_other (ha.notControl n).symm v
  unfold ostStored
  split
  · rw [ioGet_ioMod_set (h.ioSet a v), kept]
    rfl
  · exact kept.trans BitVec.or_zero.symm

/-! ### Requests (R560, R564) -/

theorem ostChannelIrq_iff : ostChannelIrq s n = true ↔ bit (s.ioGet (otcsr n)) 6 = true ∧ bit (s.ioGet (otcsr n)) 5 = true :=
  Bool.and_eq_true_iff

theorem irqOst_iff : irqOst s = true ↔ ∃ m : BitVec 2, m.toNat < 3 ∧ ostChannelIrq s m = true := by
  have channels : ∀ m : BitVec 2, m.toNat < 3 → m = 0 ∨ m = 1 ∨ m = 2 := by decide
  simp only [irqOst, Bool.or_eq_true]
  constructor
  · rintro ((h | h) | h)
    · exact ⟨0, by decide, h⟩
    · exact ⟨1, by decide, h⟩
    · exact ⟨2, by decide, h⟩
  · rintro ⟨m, hm, h⟩
    rcases channels m hm with rfl | rfl | rfl
    · exact .inl (.inl h)
    · exact .inl (.inr h)
    · exact .inr h

end

/-- Settles O60: a tick counts, reloads or stands still; a write of OTCNT or OTDR is `ostStored`. -/
theorem timerTick : Obligations.TimerTick := by
  intro s n v hio hn t
  refine ⟨fun he hc => ⟨fun a => ostTick_other, fun h => ?counts, fun h => ?reloads⟩, ostTick_stands, fun hr a ha => ?write,
    ostChannelIrq_iff, irqOst_iff⟩
  case counts =>
    have tick : t = s.ioSet (otcnt n) (s.ioGet (otcnt n) - 1) := ostTick_counts hn he hc h
    rw [tick]
    exact ⟨ioGet_ioSet_same hio _ _, ioGet_ioSet_other (otcnt_ne_otcsr n n).symm _⟩
  case reloads =>
    have tick : t = (s.ioSet (otcnt n) (s.ioGet (otdr n))).ioMod (otcsr n) (one 6) 0 := ostTick_reloads hn he hc h
    rw [tick, ioGet_ioMod_other (otcnt_ne_otcsr n n), ioGet_ioSet_same hio, ioGet_ioMod_set (IoOk.ioSet hio _ _),
      ioGet_ioSet_other (otcnt_ne_otcsr n n).symm]
    exact ⟨rfl, rfl⟩
  case write =>
    have data : IsOstData a n := by
      rcases List.mem_pair.1 ha with rfl | rfl
      · exact isOstData_otcnt n
      · exact isOstData_otdr n
    exact ⟨_, writeOst_data hio data hr, ostStored_same hio data, fun b => ostStored_other, ostStored_otcsr hio data⟩

end Sys2Proof.Machine
end

section
/-! SUPPORT. What debug mode holds off (62_ejtag.md R621, R626, R627, R635), and what a reset leaves in coprocessor 0 and in memory
(70_reset_and_hazards.md R821 to R824, 63_platform_memory.md R681). -/

namespace Sys2Proof.Machine

section

variable {s : State}

/-! ### Debug mode -/

theorem takeException_inside (h : s.dm = true) (e : Exc) : takeException e s = debugReenter e.code s := if_pos h

theorem interruptDue_inside (h : s.dm = true) : interruptDue s = false := by simp [interruptDue, h]
theorem nmiDue_inside (h : s.dm = true) : nmiDue s = false := by simp [nmiDue, h]
theorem deferredWatchDue_inside (h : s.dm = true) : deferredWatchDue s = false := by simp [deferredWatchDue, h]
theorem singleStepDue_inside (h : s.dm = true) : singleStepDue s = false := by simp [singleStepDue, h]
theorem debugInterruptDue_inside (h : s.dm = true) : debugInterruptDue s = false := by simp [debugInterruptDue, h]
theorem watchMatch_inside (h : s.dm = true) (va : Word) (k : Kind) : watchMatch va k s = false := by simp [watchMatch, h]
theorem breakEnabled_inside (h : s.dm = true) (c asid : Word) : breakEnabled c asid s = false := by simp [breakEnabled, h]

theorem ibMatch_inside (h : s.dm = true) (i : Fin 2) : ibMatch i s = false := by
  rw [ibMatch, breakEnabled_inside h, Bool.false_and]

theorem dbAddrMatch_inside (h : s.dm = true) (k : Kind) (va : Word) (l : Lanes) : dbAddrMatch k va l s = false := by
  simp only [dbAddrMatch, breakEnabled_inside h, Bool.false_and]

/-! ### Coprocessor 0 after a reset (R821, R824) -/

theorem Cp0.reset_status (p : Params) : (Cp0.reset p).status = 0x00400004 := rfl
theorem Cp0.reset_debug (p : Params) : (Cp0.reset p).debug = 0 := rfl
theorem Cp0.reset_watchLo (p : Params) : (Cp0.reset p).watchLo = 0 := rfl

section

variable {p : Params} (h : s.cp0 = Cp0.reset p)
include h

theorem bev_of_reset : s.bev = true := by rw [State.bev, h, Cp0.reset_status]; decide
theorem erl_of_reset : s.erl = true := by rw [State.erl, h, Cp0.reset_status]; decide
theorem dm_of_reset : s.dm = false := by rw [State.dm, h, Cp0.reset_debug]; decide

/-- The CP0 registers with a stated reset value, and the bits of Status, Debug and WatchLo that have one. -/
theorem cp0_of_reset : s.cp0.status &&& 0xE8380000 = 0 ∧ s.cp0.debug &&& 0x50900100 = 0 ∧ cp0Value s .intCtl = 0 ∧
    cp0Value s .ebase = 0 ∧ s.cp0.k0 = 2 ∧ cp0Value s .config7 = 0 ∧ cp0Value s .wired = 0 ∧
    s.cp0.random.toNat = p.lastIndex ∧ s.cp0.watchLo &&& 7 = 0 ∧ cp0Value s .errCtl = 0 := by
  simp only [cp0Value, h, Cp0.reset_status, Cp0.reset_debug, Cp0.reset_watchLo]
  exact ⟨by decide, by decide, rfl, rfl, rfl, rfl, rfl, toNat_ofNat_index (lastIndex_lt p), by decide, rfl⟩

end

/-! ### Memory after a reset (R681) -/

theorem runtimeReset_mem (c : ResetCause) (s : State) : (runtimeReset c s).mem = memAfterReset c s :=
  congrArg CoreView.mem (runtimeReset_view c s)

theorem runtimeReset_sameMemory {c : ResetCause} (h : c ≠ .powerOn) (s : State) : SameMemory s (runtimeReset c s) :=
  .of_mem ((runtimeReset_mem c s).trans (if_neg h))

/-- R681: a power-on reset drops the cells of SDRAM alone. -/
theorem runtimeReset_memByte (c : ResetCause) {k : Nat} (h : inSdram s.params k = false) :
    (runtimeReset c s).memByte k = s.memByte k := by
  by_cases hc : c = .powerOn
  · have dropped : (runtimeReset c s).mem = s.mem.filter fun cell => !inSdram s.params cell.1 :=
      (runtimeReset_mem c s).trans (if_pos hc)
    rw [State.memByte, dropped]
    exact Sparse.get_filter memDefault (fun key => !inSdram s.params key) (by rw [h]; rfl) s.mem
  · exact runtimeReset_sameMemory hc s k

/-! ### The invariants at reset -/

theorem resetWith_storageOk (p : Params) : StorageOk (.resetWith p) := ⟨rfl, rfl, rfl, rfl⟩

theorem resetWith_coreOk (p : Params) : CoreOk (.resetWith p) := ⟨rfl, Nat.zero_le 16⟩

theorem resetWith_cp0Ok (p : Params) : Cp0Ok (.resetWith p) := Cp0.reset_ok p rfl rfl

/-- A reset while the machine runs leaves the TLB and the parameters of the power-on state. -/
theorem resetWith_tlbOk (p : Params) : TlbOk (.resetWith p) :=
  (runtimeReset_tlbOk .powerOn (.resetWith p)).of_eq (runtimeReset_tlb _ _).symm (runtimeReset_params _ _).symm

end

/-- Settles O30: the entry is `debugReenter`, and each of the other conditions asks for DM = 0. -/
theorem debugModeExceptions : Obligations.DebugModeExceptions := by
  intro s e hdm
  refine ⟨?entry, interruptDue_inside hdm, nmiDue_inside hdm, deferredWatchDue_inside hdm, singleStepDue_inside hdm,
    debugInterruptDue_inside hdm, watchMatch_inside hdm, ibMatch_inside hdm, dbAddrMatch_inside hdm,
    fun c => dm_of_reset (runtimeReset_cp0 c s)⟩
  rw [takeException_inside hdm]
  exact ⟨(debugReenter_code s e.code).trans (Exc.field_code e), fun i => bit_debugReenter s e.code, rfl⟩

/-- Settles O55: the invariants hold at the reset state of every parameter set. -/
theorem resetInvariants : Obligations.ResetInvariants :=
  ⟨resetWith_storageOk _, resetWith_coreOk _, resetWith_cp0Ok _, resetWith_tlbOk _⟩

/-- Settles O56: a reset leaves the core of the power-on state, and memory as `memAfterReset` says. -/
theorem resetValues : Obligations.ResetValues := by
  refine ⟨?powerOn, fun s c => ?running⟩
  case powerOn => decide
  case running =>
    have view := runtimeReset_view c s
    have cp0 := runtimeReset_cp0 c s
    obtain ⟨status, debug, intCtl, ebase, k0, config7, wired, random, watchLo, errCtl⟩ := cp0_of_reset cp0
    exact ⟨congrArg CoreView.pc view, congrArg CoreView.pending view, congrArg CoreView.inDelaySlot view,
      congrArg CoreView.llBit view, congrArg CoreView.waiting view, congrArg CoreView.stepped view,
      bev_of_reset cp0, erl_of_reset cp0, status, debug, intCtl, ebase, k0, config7, wired, random, watchLo, errCtl,
      dm_of_reset cp0, fun hc => runtimeReset_sameMemory hc s, fun k => runtimeReset_memByte c⟩

end Sys2Proof.Machine
end

section
/-! SUPPORT. The words written out in the rules' examples (40_alu.md to 45_trap_system.md): each is the encoding of its
instruction, so the decoder reads it back. -/

namespace Sys2Proof.Laws

theorem decode_of_encode {w : Word} {i : Instr} (h : encode i = w) (hwf : i.wellFormed = true) : decode w = some i :=
  h ▸ decode_encode i hwf

/-- Settles O50: the named words by the round trip, the words of no row by running the decoder. -/
theorem decodedWords : Obligations.DecodedWords :=
  ⟨decode_of_encode rfl rfl, decode_of_encode rfl rfl, decode_of_encode rfl rfl, decode_of_encode rfl rfl,
    decode_of_encode rfl rfl, decode_of_encode rfl rfl, decode_of_encode rfl rfl, decode_of_encode rfl rfl,
    decode_of_encode rfl rfl, decode_of_encode rfl rfl, decode_of_encode rfl rfl, decode_of_encode rfl rfl,
    by decide, by decide⟩

end Sys2Proof.Laws
end
